-- ==== Sys2Proof/Word.lean ====
section
/-! DEFINITION. The word types of the K3DDS host port (spec/30_encoding.md R80, spec/20_memory.md R62). -/

namespace Sys2Proof

/-- One host register: every access moves a whole 32-bit register (R62). -/
abbrev Word := BitVec 32

/-- A 36-bit host transaction `{WE, IDX, DATA}` (R80). -/
abbrev Transaction := BitVec 36

end Sys2Proof
end

