-- ==== Sys2Proof/Config.lean ====
section
/-! DEFINITION. What is fixed for one K3DDS block and is not state: the OPEN parameters of spec/00_scope.md R8,
and the one free value of the model. Each is an opaque constant without a body, so no proof can see its value. -/

namespace Sys2Proof

/-- The ten 16-bit constants of the framing ROM (30_encoding.md R100). -/
structure Rom28 where
  init0 : BitVec 16
  init1 : BitVec 16
  init2 : BitVec 16
  init3 : BitVec 16
  init4 : BitVec 16
  init5 : BitVec 16
  setfCtrl : BitVec 16
  triBit : BitVec 16
  setfPhase : BitVec 16
  setfRestore : BitVec 16
deriving DecidableEq, Repr, Inhabited

/-- A choice of ROM contents that meets R100 by construction. The constants R100 leaves unconstrained are free.
"Exactly two bits" of SETF_CTRL are given by two different positions, the one bit of TRI_BIT by a third:
`ctrlB` counts the 15 positions other than `ctrlA`, `tri` the 14 positions other than both (log 7). -/
structure RomChoice where
  init0 : BitVec 16
  init1 : BitVec 16
  init2 : BitVec 16
  init3 : BitVec 16
  init4 : BitVec 16
  init5 : BitVec 16
  setfPhase : BitVec 16
  setfRestore : BitVec 16
  ctrlA : Fin 16
  ctrlB : Fin 15
  tri : Fin 14
deriving DecidableEq, Repr, Inhabited

/-- Position `k` of the positions that skip `p`: the smaller ones keep their number, the others move up by one. -/
def skipPosition (p k : Nat) : Nat := if k < p then k else k + 1

/-- The 16-bit constant with only bit `p` set. -/
def oneBit (p : Nat) : BitVec 16 := BitVec.twoPow 16 p

/-- The second position of SETF_CTRL: any position but `ctrlA`. -/
def RomChoice.ctrlBit (c : RomChoice) : Nat := skipPosition c.ctrlA.val c.ctrlB.val

/-- The position of TRI_BIT: any position but the two of SETF_CTRL (30_encoding.md R100, 92_eei_decisions.md D22). -/
def RomChoice.triPosition (c : RomChoice) : Nat :=
  skipPosition (max c.ctrlA.val c.ctrlBit) (skipPosition (min c.ctrlA.val c.ctrlBit) c.tri.val)

/-- The ROM a choice stands for. -/
def RomChoice.toRom (c : RomChoice) : Rom28 where
  init0 := c.init0
  init1 := c.init1
  init2 := c.init2
  init3 := c.init3
  init4 := c.init4
  init5 := c.init5
  setfCtrl := oneBit c.ctrlA.val ||| oneBit c.ctrlBit
  triBit := oneBit c.triPosition
  setfPhase := c.setfPhase
  setfRestore := c.setfRestore

namespace Config

/-- OPEN: which ROM contents this block has (R100, D37). Free. -/
opaque romChoice : RomChoice

/-- OPEN: the mode byte of the 32-bit-family INITIALIZE stream (R101, D38). Free. -/
opaque initModeByte : BitVec 8

/-- OPEN: the byte address of register 0 in a byte-addressed host's map (20_memory.md R68, D18). Free. -/
opaque k3ddsBase : Nat

/-- OPEN: the settle delay in clock cycles, used only by the informative timing of 70_reset_and_hazards.md R306 (D39). Free. -/
opaque settleD : Nat

/-- OPEN: the quantizer latency in clock cycles, used only by the informative timing of R306 (D40). Free. -/
opaque qlat : Nat

/-- FREE VALUE (log 9): what the divider would answer for a divisor of 0, which "cannot occur" (40_quantizer.md R128). -/
opaque quotientByZero : Nat → Nat

/-- The framing ROM constants of this block (R38, R100). -/
def rom28 : Rom28 := romChoice.toRom

end Config

end Sys2Proof
end

