-- ==== Sys2Proof/Syntax.lean ====
section
/-! DEFINITION. The syntax: the host's registers, the command words, every row of spec/opcode_table.json as one constructor of
`Instr`, and the host assembler's lines (spec/30_encoding.md R82, R103, R104). -/

namespace Sys2Proof

/-- The eight host-visible registers, by name (10_state.md R21). -/
inductive Reg where
  | cmd | status | freq | refclk | cal | options | variant | word
deriving DecidableEq, Repr

/-- The six accepted command words, by mnemonic (30_encoding.md R82, R85). -/
inductive Command where
  | nop | configure | init | setFrequency | quantize28 | quantize32
deriving DecidableEq, Repr

/-- One constructor per row of spec/opcode_table.json: the host transactions of 30_encoding.md R80.
A read carries nothing, because its DATA field is ignored (R80); a write carries the value written.
A write to CMD with a word that is none of the six matches no row (R80, R84), so it is no `Instr`; the machine rejects it. -/
inductive Instr where
  /-- `rd CMD`, 43_host_access.md R232. -/
  | rdCmd
  /-- `rd STATUS`, R233. -/
  | rdStatus
  /-- `rd FREQ`, R234. -/
  | rdFreq
  /-- `rd REFCLK`, R235. -/
  | rdRefclk
  /-- `rd CAL`, R236. -/
  | rdCal
  /-- `rd OPTIONS`, R237. -/
  | rdOptions
  /-- `rd VARIANT`, R238. -/
  | rdVariant
  /-- `rd WORD`, R239. -/
  | rdWord
  /-- `wr STATUS, v`, R241. -/
  | wrStatus (v : Word)
  /-- `wr FREQ, v`, R242. -/
  | wrFreq (v : Word)
  /-- `wr REFCLK, v`, R243. -/
  | wrRefclk (v : Word)
  /-- `wr CAL, v`, R244. -/
  | wrCal (v : Word)
  /-- `wr OPTIONS, v`, R245. -/
  | wrOptions (v : Word)
  /-- `wr VARIANT, v`, R246. -/
  | wrVariant (v : Word)
  /-- `wr WORD, v`, R247. -/
  | wrWord (v : Word)
  /-- `cmd NOP`, 41_protocol_encoder.md R150. -/
  | cmdNop
  /-- `cmd CONFIGURE`, R153. -/
  | cmdConfigure
  /-- `cmd INITIALIZE`, R160. -/
  | cmdInitialize
  /-- `cmd SET_FREQUENCY`, R170. -/
  | cmdSetFrequency
  /-- `cmd QUANTIZE.28`, 40_quantizer.md R130. -/
  | cmdQuantize28
  /-- `cmd QUANTIZE.32`, R130. -/
  | cmdQuantize32
deriving DecidableEq, Repr

/-- A line of a host program: the three accesses of R103 and the pseudo-instructions of R104.
Values are numbers as the assembler writes them (decimal or hexadecimal); WellFormed.lean says which fit. -/
inductive HostLine where
  | wr (r : Reg) (v : Nat)
  | rd (r : Reg)
  | cmd (c : Command)
  | waitIdle
  | config (var clk : Nat)
  | calibrate (x : Nat)
  | setf (f : Nat)
  | init
  | quant28 (f clk : Nat)
  | quant32 (f clk : Nat)
deriving DecidableEq, Repr

end Sys2Proof
end

