-- ==== Sys2Proof/WellFormed.lean ====
section
/-! DEFINITION. Well-formedness checks: instructions, host assembler lines, ROM contents. -/

namespace Sys2Proof

/-- Every `Instr` is well-formed: its only operands are 32-bit words, and 30_encoding.md R80 says
"Every 36-bit value is a valid transaction". There is one arm per constructor, so a new one cannot slip past. -/
def Instr.wellFormed : Instr → Bool
  | .rdCmd => true
  | .rdStatus => true
  | .rdFreq => true
  | .rdRefclk => true
  | .rdCal => true
  | .rdOptions => true
  | .rdVariant => true
  | .rdWord => true
  | .wrStatus _ => true
  | .wrFreq _ => true
  | .wrRefclk _ => true
  | .wrCal _ => true
  | .wrOptions _ => true
  | .wrVariant _ => true
  | .wrWord _ => true
  | .cmdNop => true
  | .cmdConfigure => true
  | .cmdInitialize => true
  | .cmdSetFrequency => true
  | .cmdQuantize28 => true
  | .cmdQuantize32 => true

/-- The value fits a 32-bit register (R103: "write the 32-bit value"). -/
def fitsWord (v : Nat) : Bool := decide (v < 2 ^ 32)

/-- A host assembler line is well-formed when every value it writes is a 32-bit value (R103, R104). -/
def HostLine.wellFormed : HostLine → Bool
  | .wr _ v => fitsWord v
  | .rd _ => true
  | .cmd _ => true
  | .waitIdle => true
  | .config var clk => fitsWord var && fitsWord clk
  | .calibrate x => fitsWord x
  | .setf f => fitsWord f
  | .init => true
  | .quant28 f clk => fitsWord f && fitsWord clk
  | .quant32 f clk => fitsWord f && fitsWord clk

/-- How many of the 16 bits are set. -/
def bitCount (v : BitVec 16) : Nat := ((List.range 16).filter fun i => v.getLsbD i).length

/-- The constraints 30_encoding.md R100 places on the ROM: SETF_CTRL has exactly two bits set, TRI_BIT exactly one,
and the two are disjoint (D22). The "phase value is zero" constraints name a field the source does not place; they are not
checked (log 7). -/
def Rom28.wellFormed (r : Rom28) : Bool :=
  decide (bitCount r.setfCtrl = 2) && decide (bitCount r.triBit = 1) && decide (r.triBit &&& r.setfCtrl = 0#16)

end Sys2Proof
end

