-- ==== Sys2Proof/Decode.lean ====
section
/-! DEFINITION. Decoding and encoding of host transactions (spec/30_encoding.md R80 to R86) and the opcode table.
A transaction is a 36-bit value; its fields are pulled out here, once. -/

namespace Sys2Proof

/-! ### Fields -/

/-- `WE`, bit 35 of a transaction: 1 is a write (R80). -/
def writeEnable (t : Transaction) : Bool := t.getLsbD 35

/-- `IDX`, bits 34:32 (R80). -/
def regIndex (t : Transaction) : BitVec 3 := t.extractLsb' 32 3

/-- `DATA`, bits 31:0 (R80). -/
def dataField (t : Transaction) : Word := t.extractLsb' 0 32

/-- `OP`, bits 2:0 of a command word (R81). -/
def cmdOp (v : Word) : BitVec 3 := v.extractLsb' 0 3

/-- `W`, bit 3 of a command word (R81, R83). -/
def cmdW (v : Word) : Bool := v.getLsbD 3

/-- Bits 31:4 of a command word, which "must be 0" (R81). -/
def cmdReserved (v : Word) : BitVec 28 := v.extractLsb' 4 28

/-- A reserved command word (R84): a bit of 31:4 is set, or bit 3 is set with an `OP` other than `0b100`. -/
def reservedEncoding (v : Word) : Bool :=
  (cmdReserved v != 0#28) || (cmdW v && (cmdOp v != 4#3))

/-- An illegal opcode (R84): `0b101`, `0b110` or `0b111`. -/
def illegalOp (v : Word) : Bool := decide (4 < (cmdOp v).toNat)

/-- The register an index selects; all eight indices are used (R21, R68). -/
def Reg.ofIndex (i : BitVec 3) : Reg :=
  match i.toNat with
  | 0 => .cmd
  | 1 => .status
  | 2 => .freq
  | 3 => .refclk
  | 4 => .cal
  | 5 => .options
  | 6 => .variant
  | _ => .word

/-! ### Decoding -/

/-- Why a transaction is no row of the opcode table. Both are writes to CMD; the machine rejects the command (R84). -/
inductive DecodeError where
  /-- Reserved bits of the command word are set. -/
  | reservedCommand (v : Word)
  /-- The opcode is `0b101`, `0b110` or `0b111`. -/
  | illegalCommand (v : Word)
deriving DecidableEq, Repr

/-- The read of a register (R80, 43_host_access.md section 2). -/
def decodeRead : Reg → Instr
  | .cmd => .rdCmd
  | .status => .rdStatus
  | .freq => .rdFreq
  | .refclk => .rdRefclk
  | .cal => .rdCal
  | .options => .rdOptions
  | .variant => .rdVariant
  | .word => .rdWord

/-- A command word, the DATA of a write to CMD (R81 to R85). -/
def decodeCommand (v : Word) : Except DecodeError Instr :=
  if reservedEncoding v then .error (.reservedCommand v)
  else match (cmdOp v).toNat with
    | 0 => .ok .cmdNop
    | 1 => .ok .cmdConfigure
    | 2 => .ok .cmdInitialize
    | 3 => .ok .cmdSetFrequency
    | 4 => .ok (if cmdW v then .cmdQuantize32 else .cmdQuantize28)
    | _ => .error (.illegalCommand v)

/-- A write (R80, 43_host_access.md section 3): a write to CMD is a command (R86). -/
def decodeWrite (r : Reg) (v : Word) : Except DecodeError Instr :=
  match r with
  | .cmd => decodeCommand v
  | .status => .ok (.wrStatus v)
  | .freq => .ok (.wrFreq v)
  | .refclk => .ok (.wrRefclk v)
  | .cal => .ok (.wrCal v)
  | .options => .ok (.wrOptions v)
  | .variant => .ok (.wrVariant v)
  | .word => .ok (.wrWord v)

/-- The decoder, total on every 36-bit value (R80). -/
def decode (t : Transaction) : Except DecodeError Instr :=
  if writeEnable t then decodeWrite (Reg.ofIndex (regIndex t)) (dataField t)
  else .ok (decodeRead (Reg.ofIndex (regIndex t)))

/-- The 36-bit transaction laid out in a number whose bit 0 is bit 0 of the transaction, as spec/opcode_table.json numbers them. A row is
36 bits, five bytes; the port has no wires for the four bits of padding above bit 35 (R80), so they are no part of the transaction. -/
def transactionOfNat (w : Nat) : Transaction := BitVec.ofNat 36 w

/-- The decoder on such a number. Every row has the same 36 bits, so their count does not matter. -/
def decodeTableWord (_nbits w : Nat) : Option Instr :=
  match decode (transactionOfNat w) with
  | .ok i => some i
  | .error _ => none

/-! ### Encoding -/

/-- The index of a register (R21). -/
def Reg.index : Reg → BitVec 3
  | .cmd => 0#3
  | .status => 1#3
  | .freq => 2#3
  | .refclk => 3#3
  | .cal => 4#3
  | .options => 5#3
  | .variant => 6#3
  | .word => 7#3

/-- `T = {WE, IDX, DATA}` (R80). -/
def transaction (we : Bool) (idx : BitVec 3) (data : Word) : Transaction :=
  BitVec.ofBool we ++ idx ++ data

/-- `rd REG` is `{0, idx(REG), 0}` (R103). -/
def readTransaction (r : Reg) : Transaction := transaction false r.index 0#32

/-- `wr REG, v` is `{1, idx(REG), v}` (R103). -/
def writeTransaction (r : Reg) (v : Word) : Transaction := transaction true r.index v

/-- The accepted command words (R85). -/
def Command.word : Command → Word
  | .nop => 0x00000000#32
  | .configure => 0x00000001#32
  | .init => 0x00000002#32
  | .setFrequency => 0x00000003#32
  | .quantize28 => 0x00000004#32
  | .quantize32 => 0x0000000C#32

/-- `cmd MNEMONIC` is `{1, 0, word}` (R103). -/
def commandTransaction (c : Command) : Transaction := writeTransaction .cmd c.word

/-- The transaction of an instruction. -/
def encode : Instr → Transaction
  | .rdCmd => readTransaction .cmd
  | .rdStatus => readTransaction .status
  | .rdFreq => readTransaction .freq
  | .rdRefclk => readTransaction .refclk
  | .rdCal => readTransaction .cal
  | .rdOptions => readTransaction .options
  | .rdVariant => readTransaction .variant
  | .rdWord => readTransaction .word
  | .wrStatus v => writeTransaction .status v
  | .wrFreq v => writeTransaction .freq v
  | .wrRefclk v => writeTransaction .refclk v
  | .wrCal v => writeTransaction .cal v
  | .wrOptions v => writeTransaction .options v
  | .wrVariant v => writeTransaction .variant v
  | .wrWord v => writeTransaction .word v
  | .cmdNop => commandTransaction .nop
  | .cmdConfigure => commandTransaction .configure
  | .cmdInitialize => commandTransaction .init
  | .cmdSetFrequency => commandTransaction .setFrequency
  | .cmdQuantize28 => commandTransaction .quantize28
  | .cmdQuantize32 => commandTransaction .quantize32

/-- A transaction with what the block ignores set to 0: the DATA of a read (R80). -/
def canonicalTransaction (t : Transaction) : Transaction :=
  if writeEnable t then t else transaction false (regIndex t) 0#32

/-! ### The opcode table -/

/-- A row of spec/opcode_table.json: the bits under `mask` are those of `pattern`. -/
structure Row where
  mnemonic : String
  pattern : Transaction
  mask : Transaction
deriving DecidableEq, Repr

/-- The transaction has the row's fixed bits. -/
def Row.accepts (r : Row) (t : Transaction) : Bool := decide (t &&& r.mask = r.pattern)

/-- The eight read rows. -/
def readRows : List Row :=
  [⟨"rd_CMD", 0x000000000#36, 0xF00000000#36⟩, ⟨"rd_STATUS", 0x100000000#36, 0xF00000000#36⟩,
   ⟨"rd_FREQ", 0x200000000#36, 0xF00000000#36⟩, ⟨"rd_REFCLK", 0x300000000#36, 0xF00000000#36⟩,
   ⟨"rd_CAL", 0x400000000#36, 0xF00000000#36⟩, ⟨"rd_OPTIONS", 0x500000000#36, 0xF00000000#36⟩,
   ⟨"rd_VARIANT", 0x600000000#36, 0xF00000000#36⟩, ⟨"rd_WORD", 0x700000000#36, 0xF00000000#36⟩]

/-- The seven register-write rows. -/
def writeRows : List Row :=
  [⟨"wr_STATUS", 0x900000000#36, 0xF00000000#36⟩, ⟨"wr_FREQ", 0xA00000000#36, 0xF00000000#36⟩,
   ⟨"wr_REFCLK", 0xB00000000#36, 0xF00000000#36⟩, ⟨"wr_CAL", 0xC00000000#36, 0xF00000000#36⟩,
   ⟨"wr_OPTIONS", 0xD00000000#36, 0xF00000000#36⟩, ⟨"wr_VARIANT", 0xE00000000#36, 0xF00000000#36⟩,
   ⟨"wr_WORD", 0xF00000000#36, 0xF00000000#36⟩]

/-- The six command rows. -/
def commandRows : List Row :=
  [⟨"cmd_NOP", 0x800000000#36, 0xFFFFFFFFF#36⟩, ⟨"cmd_CONFIGURE", 0x800000001#36, 0xFFFFFFFFF#36⟩,
   ⟨"cmd_INITIALIZE", 0x800000002#36, 0xFFFFFFFFF#36⟩, ⟨"cmd_SET_FREQUENCY", 0x800000003#36, 0xFFFFFFFFF#36⟩,
   ⟨"cmd_QUANTIZE.28", 0x800000004#36, 0xFFFFFFFFF#36⟩, ⟨"cmd_QUANTIZE.32", 0x80000000C#36, 0xFFFFFFFFF#36⟩]

/-- spec/opcode_table.json, row by row. -/
def opcodeTable : List Row := readRows ++ (writeRows ++ commandRows)

/-- The mnemonic of an instruction's row. -/
def mnemonic : Instr → String
  | .rdCmd => "rd_CMD"
  | .rdStatus => "rd_STATUS"
  | .rdFreq => "rd_FREQ"
  | .rdRefclk => "rd_REFCLK"
  | .rdCal => "rd_CAL"
  | .rdOptions => "rd_OPTIONS"
  | .rdVariant => "rd_VARIANT"
  | .rdWord => "rd_WORD"
  | .wrStatus _ => "wr_STATUS"
  | .wrFreq _ => "wr_FREQ"
  | .wrRefclk _ => "wr_REFCLK"
  | .wrCal _ => "wr_CAL"
  | .wrOptions _ => "wr_OPTIONS"
  | .wrVariant _ => "wr_VARIANT"
  | .wrWord _ => "wr_WORD"
  | .cmdNop => "cmd_NOP"
  | .cmdConfigure => "cmd_CONFIGURE"
  | .cmdInitialize => "cmd_INITIALIZE"
  | .cmdSetFrequency => "cmd_SET_FREQUENCY"
  | .cmdQuantize28 => "cmd_QUANTIZE.28"
  | .cmdQuantize32 => "cmd_QUANTIZE.32"

end Sys2Proof
end

