-- ==== Sys2Proof/Machine/State.lean ====
section
/-! DEFINITION. The state of one K3DDS block as plain data (spec/10_state.md R20), the spec's line trace (R40), and the model's
own record of the outside world: the host's accesses to come, whose turn is next, and what the host's reads returned. -/

namespace Sys2Proof.Machine

/-- A chip variant (00_scope.md R3). -/
inductive Variant where
  | v28 | v32 | v32m
deriving DecidableEq, Repr

/-- The protocol encoder's state (10_state.md R31). -/
inductive EncState where
  | uninit | ready
deriving DecidableEq, Repr

/-- The result code of the last command (10_state.md R32, 60_exceptions.md R260). The 4-bit field has nine named codes;
codes 9 to 15 are "never produced" (R260; 93_implementation_defined.md U16), so the type has none (log 12). -/
inductive ErrCode where
  | none | busy | reserved | illegal | configured | badVariant | badClk | notConfig | notReady
deriving DecidableEq, Repr

/-- A pending micro-step of the sequencer (10_state.md R35). `quant` carries the word already zero-extended to 32 bits. -/
inductive MicroStep where
  | quant (w : Word)
  | data (b : Bool)
  | clk (b : Bool)
  | load (b : Bool)
  | settle
  | setReady
deriving DecidableEq, Repr

/-- An event of the line trace (10_state.md R40, 00_scope.md R11). -/
inductive BusEvent where
  | data (b : Bool)
  | clk (b : Bool)
  | load (b : Bool)
  | settle
  | reset
deriving DecidableEq, Repr

/-- One thing the host does at its port (log 2). -/
inductive HostOp where
  /-- A transaction at the block's own port (30_encoding.md R80). -/
  | transaction (t : Transaction)
  /-- An access of a byte-addressed host, through its adapter (20_memory.md R61): write or read, byte address, write data. -/
  | byteAccess (write : Bool) (addr : Nat) (data : Word)
  /-- The pseudo-instruction `wait_idle`, a loop performed by the host (30_encoding.md R104). -/
  | waitIdle
deriving DecidableEq, Repr

/-- Which agent takes a step (20_memory.md R70; 70_reset_and_hazards.md R290). -/
inductive Turn where
  | host | sequencer | rst
deriving DecidableEq, Repr

/-- The state. The first sixteen fields are the tuple of R20; `trace` is the line trace of R40; `program`, `turns` and `results`
are the model's own fields for the outside world (log 1, 2, 3). -/
structure State where
  /-- `FREQ` (R22). -/
  freq : Word
  /-- `REFCLK` (R23). -/
  refclk : Word
  /-- `CAL`, Q1.31 (R24). -/
  cal : Word
  /-- `OPTIONS.CLKMUL` (R25). -/
  clkmul : Bool
  /-- `OPTIONS.WAVE`, 1 is triangle (R25). -/
  wave : Bool
  /-- `VARIANT.SEL` (R26). -/
  sel : BitVec 2
  /-- `WORD` (R27). -/
  word : Word
  /-- `cfg_valid` (R30). -/
  cfgValid : Bool
  /-- `cfg_variant` (R30). -/
  cfgVariant : Variant
  /-- `cfg_refclk` (R30). -/
  cfgRefclk : Word
  /-- `enc` (R31). -/
  enc : EncState
  /-- `err` (R32). -/
  err : ErrCode
  /-- `queue` (R35). -/
  queue : List MicroStep
  /-- `line_data` (R36), true is HIGH. -/
  lineData : Bool
  /-- `line_clk` (R36). -/
  lineClk : Bool
  /-- `line_load` (R36). -/
  lineLoad : Bool
  /-- The line trace (R40), oldest event first. -/
  trace : List BusEvent
  /-- The model's own: the host's operations still to come, the next one first (log 2). -/
  program : List HostOp
  /-- The model's own: which agent takes each of the next steps (log 1). -/
  turns : List Turn
  /-- The model's own: the values the host's reads returned, oldest first (log 3). -/
  results : List Word
deriving DecidableEq, Repr

/-- Why a run stops with a fault. The block itself raises none (60_exceptions.md R264). -/
inductive Fault where
  /-- Raised by the byte-addressed host's adapter: the byte address lies outside the block's eight registers, which are the whole
  address map (20_memory.md R68). Safe: the machine stops where the spec gives no access. -/
  | unmappedByteAddress (addr : Nat)
deriving DecidableEq, Repr

/-- Why a run stops with a refusal. -/
inductive Refusal where
  /-- Raised by exec for an instruction that has no meaning yet. Safe: the machine stops. -/
  | notModelled (mnemonic : String)
  /-- Raised by the byte-addressed host's adapter for a byte address whose bits 1:0 are not 0 (20_memory.md R61: "A model of a
  byte-addressed host refuses such an address rather than aliasing it onto a register"). Safe: the machine stops. -/
  | misalignedByteAddress (addr : Nat)
deriving DecidableEq, Repr

/-- The power-on state: every component at the reset value of 10_state.md R20, the trace empty (R40). `cfgVariant` has no reset
value in the spec; DESIGN CHOICE: V28 (log 4). No host program and no chosen turns (log 1, 2). -/
def State.reset : State where
  freq := 0#32
  refclk := 0#32
  cal := 0#32
  clkmul := false
  wave := false
  sel := 3#2
  word := 0#32
  cfgValid := false
  cfgVariant := .v28
  cfgRefclk := 0#32
  enc := .uninit
  err := .none
  queue := []
  lineData := false
  lineClk := false
  lineLoad := false
  trace := []
  program := []
  turns := []
  results := []

end Sys2Proof.Machine
end

