-- ==== Sys2Proof/Machine/Operands.lean ====
section
/-! DEFINITION. Operands: the fields of the registers, and the values a command reads from them. -/

namespace Sys2Proof.Machine

/-- The variant a selector names (10_state.md R26); `0b11` names none. -/
def selVariant (sel : BitVec 2) : Option Variant :=
  match sel.toNat with
  | 0 => some .v28
  | 1 => some .v32
  | 2 => some .v32m
  | _ => none

/-- The selector code of a variant (R26). -/
def variantCode : Variant → BitVec 2
  | .v28 => 0#2
  | .v32 => 1#2
  | .v32m => 2#2

/-- The accumulator width `N(v)` (00_scope.md R8). -/
def accumulatorBits : Variant → Nat
  | .v28 => 28
  | .v32 => 32
  | .v32m => 32

/-- The 4-bit value of a result code (60_exceptions.md R260). -/
def errBits : ErrCode → BitVec 4
  | .none => 0#4
  | .busy => 1#4
  | .reserved => 2#4
  | .illegal => 3#4
  | .configured => 4#4
  | .badVariant => 5#4
  | .badClk => 6#4
  | .notConfig => 7#4
  | .notReady => 8#4

/-- `OPTIONS` as the host reads it: `zext_32({WAVE, CLKMUL})` (R25, 43_host_access.md R237). -/
def optionsWord (clkmul wave : Bool) : Word :=
  (BitVec.ofBool wave ++ BitVec.ofBool clkmul).setWidth 32

/-- `CLKMUL`, bit 0 of a word written to OPTIONS (R25, 43_host_access.md R245). -/
def clkmulField (v : Word) : Bool := v.getLsbD 0

/-- `WAVE`, bit 1 of a word written to OPTIONS (R25, R245). -/
def waveField (v : Word) : Bool := v.getLsbD 1

/-- `SEL`, bits 1:0 of a word written to VARIANT (R26, 43_host_access.md R246). -/
def selField (v : Word) : BitVec 2 := v.extractLsb' 0 2

/-- `VARIANT` as the host reads it: `zext_32(SEL)` (R26, 43_host_access.md R238). -/
def variantWord (sel : BitVec 2) : Word := sel.setWidth 32

end Sys2Proof.Machine
end

