-- ==== Sys2Proof/Machine/Flags.lean ====
section
/-! DEFINITION. The STATUS register, computed from the state whenever it is read (spec/10_state.md R28, R33). -/

namespace Sys2Proof.Machine

/-- `BUSY`: 1 exactly when `queue` is not empty (R33). -/
def State.busy (s : State) : Bool := !s.queue.isEmpty

/-- `VAR`: the code of the configured variant, `0b11` while nothing is configured (R28). -/
def State.varBits (s : State) : BitVec 2 := if s.cfgValid then variantCode s.cfgVariant else 3#2

/-- `READY`: 1 if `enc = READY` (R28). -/
def State.readyFlag (s : State) : Bool := decide (s.enc = .ready)

/-- `STATUS`: `zext_32({ VAR[1:0], err[3:0], 0b0, (enc = READY), cfg_valid, (queue != []) })` (R28, 43_host_access.md R233). -/
def State.status (s : State) : Word :=
  (s.varBits ++ errBits s.err ++ 0#1 ++ BitVec.ofBool s.readyFlag ++ BitVec.ofBool s.cfgValid
    ++ BitVec.ofBool s.busy).setWidth 32

end Sys2Proof.Machine
end

