-- ==== Sys2Proof/Machine/Quantizer.lean ====
section
/-! DEFINITION. The frequency-to-tuning-word quantizer (spec/40_quantizer.md R120 to R129): the exact function on integers, and the
fixed-width datapath that computes it. -/

namespace Sys2Proof.Machine

/-- `2^31 − sint(c)`: the calibration factor, scaled by `2^31` (R121, R126). Between 1 and `2^32`. -/
def calFactor (c : Word) : Nat := (2 ^ 31 - c.toInt).toNat

/-- The multiplier: the divisor `D` (R126). -/
def divisor (clk : Nat) (c : Word) : Nat := clk * calFactor c

/-- The accumulator shifter: the dividend `NUM` (R127). -/
def dividend (f n : Nat) : Nat := f * 2 ^ (n + 31)

/-- The divider: the exact quotient, rounded down (R128). `D = 0` "cannot occur"; there the quotient is a free value (log 9). -/
def quotient (num d : Nat) : Nat := if d = 0 then Config.quotientByZero num else num / d

/-- `quantize(f, clk, c, N)` (R122): the low `N` bits of the quotient, which is the wrap of R123 and the truncation of R129. -/
def quantize (f clk : Nat) (c : Word) (n : Nat) : Nat := quotient (dividend f n) (divisor clk c) % 2 ^ n

/-- The word a quantizing command puts in its `Quant` micro-step, zero-extended to 32 bits (10_state.md R27, R35). -/
def tuningWord (f clk c : Word) (n : Nat) : Word := BitVec.ofNat 32 (quantize f.toNat clk.toNat c n)

/-! ### The fixed-width datapath (R125 to R129)

The snapshot registers are not state of the model (R125, log 13); here they are the arguments. -/

/-- The 33-bit unsigned factor `2^31 − sint(qcal)` (R126). -/
def calFactorBits (qcal : Word) : BitVec 33 := BitVec.ofNat 33 (2 ^ 31) - qcal.signExtend 33

/-- The 32-bit by 33-bit unsigned multiplier; its product fits 64 bits (R126). -/
def multiplierBits (qclk qcal : Word) : BitVec 64 := qclk.setWidth 64 * (calFactorBits qcal).setWidth 64

/-- The accumulator-width shifter: a shift by 59 or 63 into 95 bits (R127). `wide` is `qN = 32`. -/
def shifterBits (qf : Word) (wide : Bool) : BitVec 95 := qf.setWidth 95 <<< (if wide then 63 else 59)

/-- The 95-by-64-bit unsigned divider (R128). -/
def dividerBits (num : BitVec 95) (d : BitVec 64) : BitVec 95 := num / d.setWidth 95

/-- Truncation to the low `N` bits, zero-extended to 32 (R129). -/
def truncateBits (q : BitVec 95) (wide : Bool) : Word :=
  if wide then q.setWidth 32 else (q.setWidth 28).setWidth 32

/-- The whole datapath, from the snapshot registers to the result. -/
def quantizerDatapath (qf qclk qcal : Word) (wide : Bool) : Word :=
  truncateBits (dividerBits (shifterBits qf wide) (multiplierBits qclk qcal)) wide

end Sys2Proof.Machine
end

