-- ==== Sys2Proof/Machine/Transmitter.lean ====
section
/-! DEFINITION. The bit-serial transmitter and the frame programs: spec/42_bit_transmitter.md R200 to R206, 30_encoding.md R87 to R90 and
R102, 41_protocol_encoder.md R162 to R184. Each function gives a list of micro-steps. The ROM constants and the mode byte are
arguments (00_scope.md R8). -/

namespace Sys2Proof.Machine

/-! ### Line sequences -/

/-- Whether a settle delay follows each bit of a variant (R206, 92_eei_decisions.md D14, 90_conflicts.md C2). -/
def settles : Variant → Bool
  | .v28 => false
  | .v32 => true
  | .v32m => true

/-- `sendBit(b)` (R200). -/
def sendBit (v : Variant) (b : Bool) : List MicroStep :=
  [.data b, .clk true, .clk false] ++ (if settles v then [.settle] else [])

/-- The bit order of a frame (20_memory.md R64). -/
inductive BitOrder where
  | msb | lsb
deriving DecidableEq, Repr

/-- The positions of `n` bits in sending order (R201). -/
def bitPositions (n : Nat) : BitOrder → List Nat
  | .msb => (List.range n).reverse
  | .lsb => List.range n

/-- The low `n` bits of a value, in sending order (R201). -/
def frameBits {k : Nat} (val : BitVec k) (n : Nat) (order : BitOrder) : List Bool :=
  (bitPositions n order).map fun i => val.getLsbD i

/-- `sendFrame(val, n, order)` (R201). -/
def sendFrame {k : Nat} (v : Variant) (val : BitVec k) (n : Nat) (order : BitOrder) : List MicroStep :=
  (frameBits val n order).flatMap (sendBit v)

/-- `commit()` (R203). -/
def commitPulse : List MicroStep := [.load true, .load false]

/-- `strobeClk()` (R204, R164). -/
def strobeClk : List MicroStep := [.clk true, .clk false]

/-- `pulseLoad()` (R205, R164). -/
def pulseLoad : List MicroStep := [.load true, .load false]

/-! ### Frame contents -/

/-- `FRAME_LO(w) = {0b01, w[13:0]}` (R88). -/
def frameLo (w : Word) : BitVec 16 := 1#2 ++ w.extractLsb' 0 14

/-- `FRAME_HI(w) = {0b01, w[27:14]}` (R88). -/
def frameHi (w : Word) : BitVec 16 := 1#2 ++ w.extractLsb' 14 14

/-- `CTRL28(wave)` (R89, R181). -/
def ctrl28 (rom : Rom28) (wave : Bool) : BitVec 16 := rom.setfCtrl ||| (if wave then rom.triBit else 0#16)

/-- `CTRL_BYTE_HI`, bits 7:1 of the control byte (00_scope.md R8, 92_eei_decisions.md D13). -/
def ctrlByteHi : BitVec 7 := 0#7

/-- `CB(clkmul) = {CTRL_BYTE_HI, clkmul}` (R90, R175). -/
def controlByte (clkmul : Bool) : BitVec 8 := ctrlByteHi ++ BitVec.ofBool clkmul

/-! ### Programs -/

/-- A `V28` frame with its own commit (R162, R180). -/
def frame28 (val : BitVec 16) : List MicroStep := sendFrame .v28 val 16 .msb ++ commitPulse

/-- `INIT28` (R162). -/
def init28 (rom : Rom28) : List MicroStep :=
  frame28 rom.init0 ++ frame28 rom.init1 ++ frame28 rom.init2 ++ frame28 rom.init3 ++ frame28 rom.init4 ++ frame28 rom.init5

/-- `INIT32` (R165), for `V32` and `V32M`. -/
def init32 (v : Variant) (modeByte : BitVec 8) : List MicroStep :=
  strobeClk ++ pulseLoad ++ sendFrame v 0x00000000#32 32 .lsb ++ sendFrame v modeByte 8 .lsb ++ commitPulse

/-- `SETF28` (R180): five frames (R183, 90_conflicts.md C3). -/
def setf28 (rom : Rom28) (w : Word) (wave : Bool) : List MicroStep :=
  frame28 (ctrl28 rom wave) ++ frame28 (frameLo w) ++ frame28 (frameHi w) ++ frame28 rom.setfPhase ++ frame28 rom.setfRestore

/-- `SETF32` (R171), for `V32` and `V32M`. -/
def setf32 (v : Variant) (w : Word) (clkmul : Bool) : List MicroStep :=
  sendFrame v w 32 .lsb ++ sendFrame v (controlByte clkmul) 8 .lsb ++ commitPulse

/-- The initialization program of the configured variant (R154, R160). -/
def initProgram (rom : Rom28) (modeByte : BitVec 8) : Variant → List MicroStep
  | .v28 => init28 rom
  | .v32 => init32 .v32 modeByte
  | .v32m => init32 .v32m modeByte

/-- The setFrequency program of the configured variant (R154, R170): WAVE is read only by V28, CLKMUL only by the 32-bit family. -/
def setfProgram (rom : Rom28) (w : Word) (clkmul wave : Bool) : Variant → List MicroStep
  | .v28 => setf28 rom w wave
  | .v32 => setf32 .v32 w clkmul
  | .v32m => setf32 .v32m w clkmul

/-! ### The framing ROM as data (R38, R102) -/

/-- An entry of a frame program (R102): `F(value, bits, order)`, `C`, `S`, `P`. -/
inductive FrameEntry where
  | frame (val : Word) (bits : Nat) (order : BitOrder)
  | commit
  | strobe
  | pulse
deriving DecidableEq, Repr

/-- A `V28` frame and its commit, as ROM entries. -/
def romFrame28 (val : BitVec 16) : List FrameEntry := [.frame (val.setWidth 32) 16 .msb, .commit]

/-- The ROM program of INITIALIZE (R102). -/
def romInit (rom : Rom28) (modeByte : BitVec 8) : Variant → List FrameEntry
  | .v28 => romFrame28 rom.init0 ++ romFrame28 rom.init1 ++ romFrame28 rom.init2 ++ romFrame28 rom.init3 ++ romFrame28 rom.init4
      ++ romFrame28 rom.init5
  | .v32 => [.strobe, .pulse, .frame 0#32 32 .lsb, .frame (modeByte.setWidth 32) 8 .lsb, .commit]
  | .v32m => [.strobe, .pulse, .frame 0#32 32 .lsb, .frame (modeByte.setWidth 32) 8 .lsb, .commit]

/-- The ROM program of SET_FREQUENCY (R102). -/
def romSetf (rom : Rom28) (w : Word) (clkmul wave : Bool) : Variant → List FrameEntry
  | .v28 => romFrame28 (ctrl28 rom wave) ++ romFrame28 (frameLo w) ++ romFrame28 (frameHi w) ++ romFrame28 rom.setfPhase
      ++ romFrame28 rom.setfRestore
  | .v32 => [.frame w 32 .lsb, .frame ((controlByte clkmul).setWidth 32) 8 .lsb, .commit]
  | .v32m => [.frame w 32 .lsb, .frame ((controlByte clkmul).setWidth 32) 8 .lsb, .commit]

/-- The micro-steps of one entry. -/
def expandEntry (v : Variant) : FrameEntry → List MicroStep
  | .frame val n order => sendFrame v val n order
  | .commit => commitPulse
  | .strobe => strobeClk
  | .pulse => pulseLoad

/-- The micro-steps of a frame program. -/
def expand (v : Variant) (entries : List FrameEntry) : List MicroStep := entries.flatMap (expandEntry v)

end Sys2Proof.Machine
end

