-- ==== Sys2Proof/Machine/Ops.lean ====
section
/-! DEFINITION. The named operations on the state: register updates, the effects of a micro-step, the sequencer step, the acceptance
check and the rejection, and the reset input. -/

namespace Sys2Proof.Machine

/-! ### Register updates -/

/-- `FREQ <- v` (spec/43_host_access.md R242). -/
def State.setFreq (s : State) (v : Word) : State := { s with freq := v }

/-- `REFCLK <- v` (R243). -/
def State.setRefclk (s : State) (v : Word) : State := { s with refclk := v }

/-- `CAL <- v` (R244). -/
def State.setCal (s : State) (v : Word) : State := { s with cal := v }

/-- `CLKMUL <- v[0]`, `WAVE <- v[1]`, bits 31:2 ignored (R245). -/
def State.setOptions (s : State) (v : Word) : State := { s with clkmul := clkmulField v, wave := waveField v }

/-- `SEL <- v[1:0]`, bits 31:2 ignored (R246). -/
def State.setVariant (s : State) (v : Word) : State := { s with sel := selField v }

/-- `WORD <- w` (10_state.md R35). -/
def State.setWord (s : State) (w : Word) : State := { s with word := w }

/-- `enc <- READY` (R35, 41_protocol_encoder.md R161). -/
def State.setReady (s : State) : State := { s with enc := .ready }

/-- `err <- e` (10_state.md R32). -/
def State.setErr (s : State) (e : ErrCode) : State := { s with err := e }

/-- `queue <- list` (00_scope.md R11). -/
def State.setQueue (s : State) (q : List MicroStep) : State := { s with queue := q }

/-- `emit(e)`: append to the line trace (00_scope.md R11, 10_state.md R40). -/
def State.emit (s : State) (e : BusEvent) : State := { s with trace := s.trace ++ [e] }

/-- `line_data <- b` and its event (R35). The event is emitted even when the level does not change (42_bit_transmitter.md R202). -/
def State.driveData (s : State) (b : Bool) : State := { s with lineData := b, trace := s.trace ++ [.data b] }

/-- `line_clk <- b` and its event (R35). -/
def State.driveClk (s : State) (b : Bool) : State := { s with lineClk := b, trace := s.trace ++ [.clk b] }

/-- `line_load <- b` and its event (R35). -/
def State.driveLoad (s : State) (b : Bool) : State := { s with lineLoad := b, trace := s.trace ++ [.load b] }

/-- The configuration latch takes `VARIANT.SEL` and `REFCLK` (41_protocol_encoder.md R153). A selector that names no variant is
rejected before this runs (60_exceptions.md R262); for it nothing is latched. -/
def State.latchConfig (s : State) : State :=
  match selVariant s.sel with
  | some v => { s with cfgVariant := v, cfgRefclk := s.refclk, cfgValid := true }
  | none => s

/-- The read bus answers the host (20_memory.md R61): the block's state does not change (43_host_access.md R230). -/
def State.answer (s : State) (v : Word) : State := { s with results := s.results ++ [v] }

/-- The model's own field `program` (log 2). -/
def State.setProgram (s : State) (p : List HostOp) : State := { s with program := p }

/-- The model's own field `turns` (log 1). -/
def State.setTurns (s : State) (ts : List Turn) : State := { s with turns := ts }

/-! ### The register file as the host reads it -/

/-- `x[i]`: the value of host register `i` (00_scope.md R11, 43_host_access.md R230, R232 to R239). -/
def State.readReg (s : State) : Reg → Word
  | .cmd => 0#32
  | .status => s.status
  | .freq => s.freq
  | .refclk => s.refclk
  | .cal => s.cal
  | .options => optionsWord s.clkmul s.wave
  | .variant => variantWord s.sel
  | .word => s.word

/-- `MemRead(i, 4)`: the register's value goes to the host, nothing else changes (R230). -/
def State.hostRead (s : State) (r : Reg) : State := s.answer (s.readReg r)

/-! ### The sequencer (42_bit_transmitter.md R210) -/

/-- The effect of performing one micro-step (10_state.md R35). -/
def State.perform (s : State) : MicroStep → State
  | .quant w => s.setWord w
  | .data b => s.driveData b
  | .clk b => s.driveClk b
  | .load b => s.driveLoad b
  | .settle => s.emit .settle
  | .setReady => s.setReady

/-- The sequencer step (R210): perform the first micro-step and drop it. With an empty queue the sequencer has no step. -/
def State.sequencerStep (s : State) : State :=
  match s.queue with
  | [] => s
  | m :: rest => (s.perform m).setQueue rest

/-! ### Accepting and rejecting a command (60_exceptions.md R260 to R263) -/

/-- The acceptance check for a command word, in the order of R262: the first check that fails gives the code. -/
def State.acceptCheck (s : State) (v : Word) : Option ErrCode :=
  if s.busy then some .busy
  else if reservedEncoding v then some .reserved
  else if illegalOp v then some .illegal
  else match (cmdOp v).toNat with
    | 0 => none
    | 1 =>
      if s.cfgValid then some .configured
      else if s.sel = 3#2 then some .badVariant
      else if s.refclk = 0#32 then some .badClk
      else none
    | 2 => if s.cfgValid then none else some .notConfig
    | 3 =>
      if s.cfgValid then (if s.enc = .uninit then some .notReady else none)
      else some .notConfig
    | _ => if s.refclk = 0#32 then some .badClk else none

/-- A rejection, what this block has in place of taking an exception: `err` becomes the code and nothing else changes (R261, R266).
Nothing returns from it (R267). -/
def State.reject (s : State) (e : ErrCode) : State := s.setErr e

/-- A write of `v` to CMD whose accepted effect is `effect` (43_host_access.md R240): checked first, then performed whole in one
step, with `err <- E_NONE` on acceptance (R261). -/
def State.command (s : State) (v : Word) (effect : State → State) : State :=
  match s.acceptCheck v with
  | some e => s.reject e
  | none => (effect s).setErr .none

/-! ### The reset input (70_reset_and_hazards.md R290) -/

/-- `rst`: every component of R20 goes to its reset value, the three lines are driven LOW, and `Reset` is appended to the trace. The
host's own program, turns and answers are no part of the block and stay (log 5). -/
def State.resetInput (s : State) : State :=
  { State.reset with trace := s.trace ++ [.reset], program := s.program, turns := s.turns, results := s.results }

end Sys2Proof.Machine
end

