-- ==== Sys2Proof/Machine/Commands.lean ====
section
/-! DEFINITION. The commands: writes to CMD (spec/41_protocol_encoder.md R150 to R184, 40_quantizer.md R130, 43_host_access.md R240). -/

namespace Sys2Proof.Machine

/-- The effect of an accepted `INITIALIZE` (R160): the program of `cfg_variant`, then `SetReady`. It reads no option (C5). -/
def State.queueInit (s : State) : State :=
  s.setQueue (initProgram Config.rom28 Config.initModeByte s.cfgVariant ++ [.setReady])

/-- The word an accepted `SET_FREQUENCY` computes: FREQ, CAL and the configured clock and width (R170). -/
def State.setfWord (s : State) : Word := tuningWord s.freq s.cfgRefclk s.cal (accumulatorBits s.cfgVariant)

/-- The effect of an accepted `SET_FREQUENCY` (R170): `queue <- [Quant(w)] ++ prog`. -/
def State.queueSetf (s : State) : State :=
  s.setQueue (.quant s.setfWord :: setfProgram Config.rom28 s.setfWord s.clkmul s.wave s.cfgVariant)

/-- The effect of an accepted `QUANTIZE` with width `n` (R130): FREQ, REFCLK and CAL, `queue <- [Quant(w)]`. -/
def State.queueQuantize (s : State) (n : Nat) : State :=
  s.setQueue [.quant (tuningWord s.freq s.refclk s.cal n)]

/-- `cmd NOP` (R150). -/
def execCmdNop (s : State) : Host.Outcome State Fault Refusal := .next (s.command Command.nop.word fun t => t)

/-- `cmd CONFIGURE` (R153). -/
def execCmdConfigure (s : State) : Host.Outcome State Fault Refusal :=
  .next (s.command Command.configure.word State.latchConfig)

/-- `cmd INITIALIZE` (R160). -/
def execCmdInitialize (s : State) : Host.Outcome State Fault Refusal := .next (s.command Command.init.word State.queueInit)

/-- `cmd SET_FREQUENCY` (R170). -/
def execCmdSetFrequency (s : State) : Host.Outcome State Fault Refusal :=
  .next (s.command Command.setFrequency.word State.queueSetf)

/-- `cmd QUANTIZE.28` (R130). -/
def execCmdQuantize28 (s : State) : Host.Outcome State Fault Refusal :=
  .next (s.command Command.quantize28.word fun t => t.queueQuantize 28)

/-- `cmd QUANTIZE.32` (R130). -/
def execCmdQuantize32 (s : State) : Host.Outcome State Fault Refusal :=
  .next (s.command Command.quantize32.word fun t => t.queueQuantize 32)

/-- A write to CMD of a word that is no row of the opcode table: rejected by the acceptance check (R84, R240; log 14).
The check always fails for such a word, so the effect never runs. -/
def execUnlistedCommand (v : Word) (s : State) : Host.Outcome State Fault Refusal := .next (s.command v fun t => t)

end Sys2Proof.Machine
end

