-- ==== Sys2Proof/Machine/Reads.lean ====
section
/-! DEFINITION. The eight register reads (spec/43_host_access.md R230, R232 to R239). -/

namespace Sys2Proof.Machine

/-- `rd CMD`: 0, for CMD has no storage (R232). -/
def execRdCmd (s : State) : Host.Outcome State Fault Refusal := .next (s.hostRead .cmd)

/-- `rd STATUS` (R233). -/
def execRdStatus (s : State) : Host.Outcome State Fault Refusal := .next (s.hostRead .status)

/-- `rd FREQ` (R234). -/
def execRdFreq (s : State) : Host.Outcome State Fault Refusal := .next (s.hostRead .freq)

/-- `rd REFCLK`: the staging register, not `cfg_refclk` (R235). -/
def execRdRefclk (s : State) : Host.Outcome State Fault Refusal := .next (s.hostRead .refclk)

/-- `rd CAL` (R236). -/
def execRdCal (s : State) : Host.Outcome State Fault Refusal := .next (s.hostRead .cal)

/-- `rd OPTIONS` (R237). -/
def execRdOptions (s : State) : Host.Outcome State Fault Refusal := .next (s.hostRead .options)

/-- `rd VARIANT`: the staging selector, not `cfg_variant` (R238). -/
def execRdVariant (s : State) : Host.Outcome State Fault Refusal := .next (s.hostRead .variant)

/-- `rd WORD` (R239). -/
def execRdWord (s : State) : Host.Outcome State Fault Refusal := .next (s.hostRead .word)

end Sys2Proof.Machine
end

