-- ==== Sys2Proof/Machine/Writes.lean ====
section
/-! DEFINITION. The seven register writes (spec/43_host_access.md R231, R241 to R247). -/

namespace Sys2Proof.Machine

/-- `wr STATUS, v`: ignored (R241). -/
def execWrStatus (_v : Word) (s : State) : Host.Outcome State Fault Refusal := .next s

/-- `wr FREQ, v` (R242). -/
def execWrFreq (v : Word) (s : State) : Host.Outcome State Fault Refusal := .next (s.setFreq v)

/-- `wr REFCLK, v`: 0 is stored without error (R243). -/
def execWrRefclk (v : Word) (s : State) : Host.Outcome State Fault Refusal := .next (s.setRefclk v)

/-- `wr CAL, v`: the document's calibrate operation (R244). -/
def execWrCal (v : Word) (s : State) : Host.Outcome State Fault Refusal := .next (s.setCal v)

/-- `wr OPTIONS, v` (R245). -/
def execWrOptions (v : Word) (s : State) : Host.Outcome State Fault Refusal := .next (s.setOptions v)

/-- `wr VARIANT, v` (R246). -/
def execWrVariant (v : Word) (s : State) : Host.Outcome State Fault Refusal := .next (s.setVariant v)

/-- `wr WORD, v`: ignored (R247). -/
def execWrWord (_v : Word) (s : State) : Host.Outcome State Fault Refusal := .next s

end Sys2Proof.Machine
end

