-- ==== Sys2Proof/Machine/Dispatch.lean ====
section
/-! DEFINITION. One arm per constructor of Instr. -/

namespace Sys2Proof.Machine

def exec (i : Instr) (s : State) : Host.Outcome State Fault Refusal :=
  match i with
  -- reads
  | .rdCmd => Sys2Proof.Machine.execRdCmd s
  | .rdStatus => Sys2Proof.Machine.execRdStatus s
  | .rdFreq => Sys2Proof.Machine.execRdFreq s
  | .rdRefclk => Sys2Proof.Machine.execRdRefclk s
  | .rdCal => Sys2Proof.Machine.execRdCal s
  | .rdOptions => Sys2Proof.Machine.execRdOptions s
  | .rdVariant => Sys2Proof.Machine.execRdVariant s
  | .rdWord => Sys2Proof.Machine.execRdWord s
  -- register writes
  | .wrStatus v => Sys2Proof.Machine.execWrStatus v s
  | .wrFreq v => Sys2Proof.Machine.execWrFreq v s
  | .wrRefclk v => Sys2Proof.Machine.execWrRefclk v s
  | .wrCal v => Sys2Proof.Machine.execWrCal v s
  | .wrOptions v => Sys2Proof.Machine.execWrOptions v s
  | .wrVariant v => Sys2Proof.Machine.execWrVariant v s
  | .wrWord v => Sys2Proof.Machine.execWrWord v s
  -- commands
  | .cmdNop => Sys2Proof.Machine.execCmdNop s
  | .cmdConfigure => Sys2Proof.Machine.execCmdConfigure s
  | .cmdInitialize => Sys2Proof.Machine.execCmdInitialize s
  | .cmdSetFrequency => Sys2Proof.Machine.execCmdSetFrequency s
  | .cmdQuantize28 => Sys2Proof.Machine.execCmdQuantize28 s
  | .cmdQuantize32 => Sys2Proof.Machine.execCmdQuantize32 s

end Sys2Proof.Machine
end

