-- ==== Sys2Proof/Machine/HostPort.lean ====
section
/-! DEFINITION. The host side of the port: running a transaction, the byte-addressed host's adapter, the `wait_idle` loop, the choice of
the agent that moves, and the host assembler's lines as host operations. -/

namespace Sys2Proof.Machine

/-- One transaction at the port (spec/43_host_access.md R230, R231, R240): a row of the opcode table runs its instruction, a CMD write that
matches no row is rejected (30_encoding.md R80, R84). -/
def runTransaction (t : Transaction) (s : State) : Host.Outcome State Fault Refusal :=
  match decode t with
  | .ok i => exec i s
  | .error (.reservedCommand v) => execUnlistedCommand v s
  | .error (.illegalCommand v) => execUnlistedCommand v s

/-- Where a byte address leads through the adapter of a byte-addressed host. -/
inductive AdapterResult where
  | index (i : BitVec 3)
  | misaligned
  | unmapped
deriving DecidableEq, Repr

/-- The adapter (20_memory.md R61, R68): the eight registers stand at byte offsets 0x00 to 0x1C from the base, bits 4:2 of the offset are the
index, and an offset whose bits 1:0 are not 0 is refused. -/
def adapt (base addr : Nat) : AdapterResult :=
  if addr < base ∨ base + 32 ≤ addr then .unmapped
  else if (addr - base) % 4 ≠ 0 then .misaligned
  else .index (BitVec.ofNat 3 ((addr - base) / 4))

/-- An access of a byte-addressed host: the adapter passes it on as a transaction, refuses a misaligned address (R61), and faults at an address
that is none of the block's registers (R68). Bit `i` of the host's word is bit `i` of the register (R63). -/
def runByteAccess (write : Bool) (addr : Nat) (data : Word) (s : State) : Host.Outcome State Fault Refusal :=
  match adapt Config.k3ddsBase addr with
  | .index i => runTransaction (transaction write i data) s
  | .misaligned => .refused (.misalignedByteAddress addr)
  | .unmapped => .fault (.unmappedByteAddress addr)

/-- One turn of the `wait_idle` loop (30_encoding.md R104): `rd STATUS`, and again while bit 0 of the result is 1. `rest` is what the host does
after the loop; the loop itself stays the next operation while BUSY is 1. -/
def waitIdleTurn (rest : List HostOp) (s : State) : State :=
  if s.status.getLsbD 0 then s.hostRead .status else (s.hostRead .status).setProgram rest

/-- The host's turn: its next operation, if it has one (20_memory.md R70.1). -/
def hostTurn (s : State) : Host.Outcome State Fault Refusal :=
  match s.program with
  | [] => .next s
  | .transaction t :: rest => runTransaction t (s.setProgram rest)
  | .byteAccess write addr data :: rest => runByteAccess write addr data (s.setProgram rest)
  | .waitIdle :: rest => .next (waitIdleTurn rest s)

/-- The agent that moves: the first of `turns`. When no turns are given, the sequencer moves while `queue` is not empty, which is the
fairness of R70.4, and the host otherwise (log 1). -/
def nextTurn (s : State) : Turn :=
  match s.turns with
  | turn :: _ => turn
  | [] => if s.busy then .sequencer else .host

/-- One agent's turn, with the turn used up. -/
def takeTurn (turn : Turn) (s : State) : Host.Outcome State Fault Refusal :=
  match turn with
  | .host => hostTurn s
  | .sequencer => .next s.sequencerStep
  | .rst => .next s.resetInput

/-! ### Host assembler lines (30_encoding.md R103, R104) -/

/-- `wr REG, v` as a host operation (R103). -/
def opWr (r : Reg) (v : Nat) : HostOp := .transaction (writeTransaction r (BitVec.ofNat 32 v))

/-- `rd REG` as a host operation (R103). -/
def opRd (r : Reg) : HostOp := .transaction (readTransaction r)

/-- `cmd MNEMONIC` as a host operation (R103). -/
def opCmd (c : Command) : HostOp := .transaction (commandTransaction c)

/-- The host operations of an assembler line; the pseudo-instructions by their expansions (R104). -/
def assemble : HostLine → List HostOp
  | .wr r v => [opWr r v]
  | .rd r => [opRd r]
  | .cmd c => [opCmd c]
  | .waitIdle => [.waitIdle]
  | .config var clk => [opWr .variant var, opWr .refclk clk, opCmd .configure]
  | .calibrate x => [opWr .cal x]
  | .setf f => [opWr .freq f, opCmd .setFrequency, .waitIdle]
  | .init => [opCmd .init, .waitIdle]
  | .quant28 f clk => [opWr .freq f, opWr .refclk clk, opCmd .quantize28, .waitIdle, opRd .word]
  | .quant32 f clk => [opWr .freq f, opWr .refclk clk, opCmd .quantize32, .waitIdle, opRd .word]

end Sys2Proof.Machine
end

