-- ==== Sys2Proof/Machine/Step.lean ====
section
/-! DEFINITION. One step of the model: one host access, one micro-step, or one reset (spec/20_memory.md R67, R70). -/

namespace Sys2Proof.Machine

/-- One step: the agent whose turn it is moves. -/
def step (s : State) : Host.Outcome State Fault Refusal :=
  takeTurn (nextTurn s) (s.setTurns s.turns.tail)

/-- The state in which the next step is the host's and its next operation is the transaction `w` (log 2). -/
def State.withFetchWord (s : State) (_nbits w : Nat) : State :=
  (s.setProgram (.transaction (transactionOfNat w) :: s.program)).setTurns (.host :: s.turns)

end Sys2Proof.Machine
end

