-- ==== Sys2Proof/Machine/ShiftRegister.lean ====
section
/-! DEFINITION. The shift-register implementation of the sequencer (spec/10_state.md R37, 42_bit_transmitter.md R212): the datapath with `SR`, bit
counter, frame index and phase, which "is correct exactly when it performs the same micro-step list". It is not part of State (log 13). -/

namespace Sys2Proof.Machine

/-- The phases of R37. -/
inductive Phase where
  | data | clkh | clkl | settle | loadh | loadl | quant | ready | idle
deriving DecidableEq, Repr

/-- What the sequencer runs: the variant, the ROM program, and the micro-step around it: `Quant(w)` before a SET_FREQUENCY program,
`SetReady` after an INITIALIZE program. -/
structure SeqJob where
  variant : Variant
  entries : List FrameEntry
  quantWord : Option Word
  endsReady : Bool
deriving DecidableEq, Repr

/-- The datapath registers of R37. -/
structure SeqRegs where
  sr : Word
  bitcnt : BitVec 6
  frame : BitVec 4
  phase : Phase
deriving DecidableEq, Repr

/-- The micro-steps a job stands for. -/
def SeqJob.microSteps (j : SeqJob) : List MicroStep :=
  (match j.quantWord with | some w => [.quant w] | none => []) ++ expand j.variant j.entries
    ++ (if j.endsReady then [.setReady] else [])

/-- Go to entry `k` of the ROM program: load `SR` and `bitcnt` for a frame (R212), or the first phase of the pulse. After the last entry come
READY or IDLE. -/
def SeqRegs.enter (j : SeqJob) (r : SeqRegs) (k : BitVec 4) : SeqRegs :=
  match j.entries[k.toNat]? with
  | some (.frame val n _) => { sr := val, bitcnt := BitVec.ofNat 6 n, frame := k, phase := .data }
  | some .commit => { r with frame := k, phase := .loadh }
  | some .pulse => { r with frame := k, phase := .loadh }
  | some .strobe => { r with frame := k, phase := .clkh }
  | none => { r with frame := k, phase := if j.endsReady then .ready else .idle }

/-- The registers when the job is accepted; `held` is what they held before. R37 gives `SR`, the bit counter and the frame index no reset
contents ("not observable"), so the model chooses none: `held` is any value, and no statement fixes it (log 13). -/
def SeqJob.start (j : SeqJob) (held : SeqRegs) : SeqRegs :=
  match j.quantWord with
  | some _ => { held with phase := .quant }
  | none => SeqRegs.enter j held 0#4

/-- The bit the datapath sends: `SR[n-1]` for MSB, `SR[0]` for LSB (R212 step 1). -/
def SeqRegs.outBit (r : SeqRegs) (n : Nat) : BitOrder → Bool
  | .msb => r.sr.getLsbD (n - 1)
  | .lsb => r.sr.getLsbD 0

/-- `SR` shifted by one: left for MSB, right for LSB (R212 step 5). -/
def shiftOnce (sr : Word) : BitOrder → Word
  | .msb => sr <<< 1
  | .lsb => sr >>> 1

/-- Shift `SR`, decrement `bitcnt`, and go on with the next bit or the next entry (R212 step 5). -/
def SeqRegs.shift (j : SeqJob) (r : SeqRegs) (order : BitOrder) : SeqRegs :=
  let sr := shiftOnce r.sr order
  let bitcnt := r.bitcnt - 1#6
  if bitcnt = 0#6 then SeqRegs.enter j { r with sr := sr, bitcnt := bitcnt } (r.frame + 1#4)
  else { r with sr := sr, bitcnt := bitcnt, phase := .data }

/-- After the falling clock edge of entry `e`: the settle phase or the shift for a frame, the next entry for a strobe. -/
def SeqRegs.afterClock (j : SeqJob) (r : SeqRegs) : FrameEntry → SeqRegs
  | .frame _ _ order => if settles j.variant then { r with phase := .settle } else SeqRegs.shift j r order
  | _ => SeqRegs.enter j r (r.frame + 1#4)

/-- The bit order and width of entry `e`. -/
def FrameEntry.shape : FrameEntry → Nat × BitOrder
  | .frame _ n order => (n, order)
  | _ => (0, .lsb)

/-- One micro-step of the datapath: what it performs and the registers after it; nothing in phase IDLE. -/
def SeqRegs.next (j : SeqJob) (r : SeqRegs) : Option (MicroStep × SeqRegs) :=
  let e := (j.entries[r.frame.toNat]?).getD .commit
  match r.phase with
  | .data => some (.data (r.outBit e.shape.1 e.shape.2), { r with phase := .clkh })
  | .clkh => some (.clk true, { r with phase := .clkl })
  | .clkl => some (.clk false, r.afterClock j e)
  | .settle => some (.settle, SeqRegs.shift j r e.shape.2)
  | .loadh => some (.load true, { r with phase := .loadl })
  | .loadl => some (.load false, SeqRegs.enter j r (r.frame + 1#4))
  | .quant => some (.quant (j.quantWord.getD 0#32), SeqRegs.enter j r 0#4)
  | .ready => some (.setReady, { r with phase := .idle })
  | .idle => none

/-- The micro-steps the datapath performs, at most `fuel` of them. -/
def SeqRegs.unroll (j : SeqJob) : Nat → SeqRegs → List MicroStep
  | 0, _ => []
  | fuel + 1, r =>
    match r.next j with
    | some (m, r') => m :: SeqRegs.unroll j fuel r'
    | none => []

/-- The job of INITIALIZE (R160, R102). -/
def initJob (rom : Rom28) (modeByte : BitVec 8) (v : Variant) : SeqJob :=
  { variant := v, entries := romInit rom modeByte v, quantWord := none, endsReady := true }

/-- The job of SET_FREQUENCY (R170, R102). -/
def setfJob (rom : Rom28) (w : Word) (clkmul wave : Bool) (v : Variant) : SeqJob :=
  { variant := v, entries := romSetf rom w clkmul wave v, quantWord := some w, endsReady := false }

/-- The job of QUANTIZE (40_quantizer.md R130): no frames. -/
def quantJob (w : Word) (v : Variant) : SeqJob :=
  { variant := v, entries := [], quantWord := some w, endsReady := false }

end Sys2Proof.Machine
end

