-- ==== Sys2Proof/Machine/Timing.lean ====
section
/-! DEFINITION. The informative timing of spec/70_reset_and_hazards.md R306. Nothing else of the model uses it: the machine has no time (log 11). -/

namespace Sys2Proof.Machine

/-- Clock cycles of one micro-step (R306): `Settle` takes `SETTLE_D`, `Quant` takes `QLAT`, every other micro-step one cycle. -/
def microStepCycles (settleD qlat : Nat) : MicroStep → Nat
  | .quant _ => qlat
  | .data _ => 1
  | .clk _ => 1
  | .load _ => 1
  | .settle => settleD
  | .setReady => 1

/-- Clock cycles of a micro-step program. -/
def programCycles (settleD qlat : Nat) (q : List MicroStep) : Nat := (q.map (microStepCycles settleD qlat)).sum

end Sys2Proof.Machine
end

