-- ==== Sys2Proof/Machine/Wires.lean ====
section
/-! DEFINITION. Reading the bus: the events of a micro-step list, the line levels a trace leaves, what a receiver samples, what is seen on the
wires, and how many bits stand uncommitted (spec/10_state.md R40, 42_bit_transmitter.md R202, R207 to R209, 41_protocol_encoder.md R184). -/

namespace Sys2Proof.Machine

/-- The bus event of a micro-step; `Quant` and `SetReady` have none (R35). -/
def microStepEvent : MicroStep → Option BusEvent
  | .quant _ => none
  | .data b => some (.data b)
  | .clk b => some (.clk b)
  | .load b => some (.load b)
  | .settle => some .settle
  | .setReady => none

/-- The bus events of a micro-step list, in order. -/
def busEvents (q : List MicroStep) : List BusEvent := q.filterMap microStepEvent

/-- The levels of the three lines. -/
structure Levels where
  data : Bool
  clk : Bool
  load : Bool
deriving DecidableEq, Repr

/-- All lines LOW. -/
def Levels.low : Levels := { data := false, clk := false, load := false }

/-- The levels after one event; `Reset` "stands for all three lines being driven LOW at once" (R40). -/
def Levels.after (l : Levels) : BusEvent → Levels
  | .data b => { l with data := b }
  | .clk b => { l with clk := b }
  | .load b => { l with load := b }
  | .settle => l
  | .reset => Levels.low

/-- The levels a trace leaves, from power-on (all LOW). -/
def traceLevels (tr : List BusEvent) : Levels := tr.foldl Levels.after Levels.low

/-- The levels of the lines in a state. -/
def State.levels (s : State) : Levels := { data := s.lineData, clk := s.lineClk, load := s.lineLoad }

/-- What a receiver samples that reads the data line at each clock edge of the given direction (R208): `d` is the level of the data line before
the events. A falling edge also comes from a reset while the clock is HIGH (R291); this reading is used on events without a reset. -/
def sampleBits (rising : Bool) : Bool → List BusEvent → List Bool
  | _, [] => []
  | _, .data b :: es => sampleBits rising b es
  | d, .clk b :: es => if b = rising then d :: sampleBits rising d es else sampleBits rising d es
  | d, .load _ :: es => sampleBits rising d es
  | d, .settle :: es => sampleBits rising d es
  | _, .reset :: es => sampleBits rising false es

/-- The bits sampled at rising clock edges, grouped by the load pulses that commit them: the frames a receiver takes. `acc` holds the bits of the
frame not yet committed, in the order sampled. DESIGN CHOICE (log 17): at a reset this receiver drops the bits it holds. The spec says that what the chip does
with a partial stream is unknown (70_reset_and_hazards.md R291), so no statement uses this reading on events with a reset. -/
def committedFrames : Bool → List Bool → List BusEvent → List (List Bool)
  | _, _, [] => []
  | _, acc, .data b :: es => committedFrames b acc es
  | d, acc, .clk b :: es => committedFrames d (if b then acc ++ [d] else acc) es
  | d, acc, .load b :: es => if b then acc :: committedFrames d [] es else committedFrames d acc es
  | d, acc, .settle :: es => committedFrames d acc es
  | _, _, .reset :: es => committedFrames false [] es

/-- The 40-bit receiver register of 20_memory.md R65: each new bit is shifted in at the top, earlier bits move toward bit 0. -/
def shiftIn40 (r : BitVec 40) (b : Bool) : BitVec 40 := (BitVec.ofBool b ++ r.extractLsb' 1 39)

/-- The register after a list of bits. -/
def receive40 (bits : List Bool) : BitVec 40 := bits.foldl shiftIn40 0#40

/-- A 16-bit MSB-first receiver: earlier bits move toward bit 15. -/
def shiftIn16 (r : BitVec 16) (b : Bool) : BitVec 16 := (r.extractLsb' 0 15 ++ BitVec.ofBool b)

/-- The register after a list of bits. -/
def receive16 (bits : List Bool) : BitVec 16 := bits.foldl shiftIn16 0#16

/-- What is seen on the wires (R202): each `Data(b)` whose `b` is the level the data line already has is deleted. -/
def wireView : Bool → List BusEvent → List BusEvent
  | _, [] => []
  | d, .data b :: es => if b = d then wireView d es else .data b :: wireView b es
  | d, .clk b :: es => .clk b :: wireView d es
  | d, .load b :: es => .load b :: wireView d es
  | d, .settle :: es => .settle :: wireView d es
  | _, .reset :: es => .reset :: wireView false es

/-- How many bits the block has sent and not committed after one more event: a bit is counted at its `Data`, a rising load or a reset ends the frame. DESIGN
CHOICE (log 17): the count starts again at a reset. It is of what the block has sent since, and says nothing of what the chip still holds of a frame that the reset
cut off, which is unknown (70_reset_and_hazards.md R291). -/
def openBitsAfter (n : Nat) : BusEvent → Nat
  | .data _ => n + 1
  | .clk _ => n
  | .load b => if b then 0 else n
  | .settle => n
  | .reset => 0

/-- How many bits a trace has sent since its last rising load or reset (log 17). -/
def openBits (tr : List BusEvent) : Nat := tr.foldl openBitsAfter 0

/-- How many bits a commit takes (41_protocol_encoder.md R162, R165, R171, R180): a 16-bit frame for `V28`, a 40-bit stream for the 32-bit family. -/
def commitWidth : Variant → Nat
  | .v28 => 16
  | .v32 => 40
  | .v32m => 40

end Sys2Proof.Machine
end

