-- ==== Sys2Proof/Safety.lean ====
section
/-! DEFINITION. What counts as a safe run: the invariants of the block and the host operations that never stop the machine. -/

namespace Sys2Proof.Machine

/-- `k` steps, stopping at the first fault or refusal: `Host.Core.run` of the model's core, at the model's own types (the law
`runSteps_eq_core_run` says so). -/
def runSteps : Nat → State → Host.Outcome State Fault Refusal
  | 0, s => .next s
  | k + 1, s =>
    match step s with
    | .next t => runSteps k t
    | .fault f => .fault f
    | .refused r => .refused r

/-- A pending micro-step list is made of well-shaped pulses, when it starts from the given clock and load levels (spec/42_bit_transmitter.md
R207 to R209): every clock or load event changes its line, never while the other is HIGH; data, settle, quantize and ready happen only with both
LOW; the list ends with both LOW; `SetReady` is only ever last (41_protocol_encoder.md R161). -/
def pulsesShaped : Bool → Bool → List MicroStep → Bool
  | c, l, [] => !c && !l
  | c, l, .quant _ :: q => !c && !l && pulsesShaped c l q
  | c, l, .data _ :: q => !c && !l && pulsesShaped c l q
  | c, l, .clk b :: q => (b != c) && !l && pulsesShaped b l q
  | c, l, .load b :: q => (b != l) && !c && pulsesShaped c b q
  | c, l, .settle :: q => !c && !l && pulsesShaped c l q
  | c, l, .setReady :: q => !c && !l && q.isEmpty && pulsesShaped c l q

/-- The end of an `INITIALIZE` program of the 32-bit family, from its start load pulse on (41_protocol_encoder.md R164, R165, R160): what is pending once
its clock strobe has been performed. -/
def fromStartPulse (v : Variant) : List MicroStep := (init32 v Config.initModeByte).drop 2 ++ [.setReady]

/-- The micro-steps `q` begin with the start load pulse of INIT32: the one rise of the load line that commits nothing (R164). -/
def atStartPulse (v : Variant) (q : List MicroStep) : Bool :=
  match v with
  | .v28 => false
  | .v32 => decide (q = fromStartPulse .v32)
  | .v32m => decide (q = fromStartPulse .v32m)

/-- A pending micro-step list commits only whole frames, when `n` bits stand uncommitted before it, and leaves none uncommitted
(41_protocol_encoder.md R184). With no bit uncommitted the load line rises only at the start pulse of INIT32. -/
def commitsWhole (v : Variant) : Nat → List MicroStep → Bool
  | n, [] => n == 0
  | n, .quant _ :: q => commitsWhole v n q
  | n, .data _ :: q => commitsWhole v (n + 1) q
  | n, .clk _ :: q => commitsWhole v n q
  | n, .load b :: q =>
    if b then (n == commitWidth v || (n == 0 && atStartPulse v (.load b :: q))) && commitsWhole v 0 q else commitsWhole v n q
  | n, .settle :: q => commitsWhole v n q
  | n, .setReady :: q => commitsWhole v n q

/-- The configuration rules: a configured block has a clock that is not 0 (60_exceptions.md R262); only a configured block is READY or has the end of an
INITIALIZE program pending (R262, 41_protocol_encoder.md R160). -/
def State.configOk (s : State) : Prop :=
  (s.cfgValid = true → s.cfgRefclk ≠ 0#32) ∧ (s.enc = .ready → s.cfgValid = true) ∧ (.setReady ∈ s.queue → s.cfgValid = true)

/-- The clock and load lines and the pending micro-steps together are well-shaped (42_bit_transmitter.md R207 to R209). -/
def State.linesOk (s : State) : Prop := pulsesShaped s.lineClk s.lineLoad s.queue = true

/-- The lines have the levels the trace says (10_state.md R36, R40). -/
def State.traceOk (s : State) : Prop := traceLevels s.trace = s.levels

/-- No partial frame is or will be committed (41_protocol_encoder.md R184), of the bits sent since the last reset (log 17). -/
def State.framesOk (s : State) : Prop := commitsWhole s.cfgVariant (openBits s.trace) s.queue = true

/-- The invariant of the block. -/
def State.Inv (s : State) : Prop := s.configOk ∧ s.linesOk ∧ s.traceOk ∧ s.framesOk

/-- A host operation that never stops the machine: any transaction, any wait, and an access of a byte-addressed host to one of the eight registers, aligned. -/
def HostOp.safe : HostOp → Bool
  | .transaction _ => true
  | .byteAccess _ addr _ =>
    decide (Config.k3ddsBase ≤ addr ∧ addr < Config.k3ddsBase + 32 ∧ (addr - Config.k3ddsBase) % 4 = 0)
  | .waitIdle => true

/-- A safe run: the host only does what its port can express. -/
def State.SafeHost (s : State) : Prop := ∀ op ∈ s.program, op.safe = true

/-- What the 32-bit variants are to the block: one family, V28 the other (R3, R4). -/
def sameFamily (a b : Variant) : Prop := (a = .v28 ↔ b = .v28)

/-- An answer with bits 9:8 set to 0, where a read of STATUS shows the configured variant (10_state.md R28). -/
def maskVar (w : Word) : Word := w &&& 0xFFFFFCFF#32

/-- Two states that differ at most in which 32-bit variant is configured, and in bits 9:8 of what the host has been answered. -/
def alikeUpToVariant (s t : State) : Prop :=
  sameFamily s.cfgVariant t.cfgVariant ∧ s.results.map maskVar = t.results.map maskVar ∧
    t = { s with cfgVariant := t.cfgVariant, results := t.results }

/-- Two states that differ at most in the staging registers, what the host will still do, and what it has been answered. -/
def alikeUpToStaging (s t : State) : Prop :=
  t = { s with
    freq := t.freq, refclk := t.refclk, cal := t.cal, clkmul := t.clkmul, wave := t.wave, sel := t.sel
    err := t.err, program := t.program, results := t.results }

end Sys2Proof.Machine
end

