-- ==== Sys2Proof/Certificates/Slice0/Obligations.lean ====
section
/-! DEFINITION. The statements for the provers. Each docstring names the rules of spec/ it formalises. -/

open Sys2Proof Sys2Proof.Machine

/-! ### Encoding -/

/-- R80, R85, R103: decoding the encoding of any well-formed instruction gives it back, with every value of its operand. -/
def Obligations.DecodeAfterEncode : Prop :=
  ∀ i : Instr, i.wellFormed = true → decode (encode i) = .ok i

/-- R80: an instruction decoded from a transaction encodes to it, bit for bit; the only bits dropped are the DATA of a read, which "is ignored". -/
def Obligations.EncodeAfterDecode : Prop :=
  ∀ (t : Transaction) (i : Instr), decode t = .ok i →
    encode i = if t.getLsbD 35 then t else (t.extractLsb' 32 4).setWidth 36 <<< 32

/-- R80, R84: for every transaction, the rows of the opcode table that accept it are exactly the one row of the decoded instruction, and none when
the decoder refuses; so no two rows overlap. -/
def Obligations.OpcodeTableRowsAreDecodedAndNeverOverlap : Prop :=
  ∀ t : Transaction, ((opcodeTable.filter fun r => r.accepts t).map fun r => r.mnemonic) =
    match decode t with
    | .ok i => [mnemonic i]
    | .error _ => []

/-- R84, R85: the command words that are instructions are the six of R85; a word with reserved bits is refused as reserved, any other as illegal. -/
def Obligations.OnlySixCommandWordsAreInstructions : Prop :=
  ∀ v : Word,
    ((∃ i, decode (writeTransaction .cmd v) = .ok i) ↔
      v = 0x00000000#32 ∨ v = 0x00000001#32 ∨ v = 0x00000002#32 ∨ v = 0x00000003#32 ∨ v = 0x00000004#32 ∨ v = 0x0000000C#32) ∧
    ((v.extractLsb' 4 28 ≠ 0#28 ∨ (v.getLsbD 3 = true ∧ v.extractLsb' 0 3 ≠ 4#3)) →
      decode (writeTransaction .cmd v) = .error (.reservedCommand v)) ∧
    (v = 0x00000005#32 ∨ v = 0x00000006#32 ∨ v = 0x00000007#32 → decode (writeTransaction .cmd v) = .error (.illegalCommand v))

/-- R80, R85, R103: words written out in 95_test_vectors.md P1 to P4 decode to the accesses named there. -/
def Obligations.SpecWordsDecodeAsTheSpecSays : Prop :=
  decode 0xE00000001#36 = .ok (.wrVariant 1#32) ∧ decode 0xB07735940#36 = .ok (.wrRefclk 125000000#32) ∧
  decode 0x800000001#36 = .ok .cmdConfigure ∧ decode 0x100000000#36 = .ok .rdStatus ∧
  decode 0x800000002#36 = .ok .cmdInitialize ∧ decode 0xA00989680#36 = .ok (.wrFreq 10000000#32) ∧
  decode 0x800000003#36 = .ok .cmdSetFrequency ∧ decode 0x700000000#36 = .ok .rdWord ∧
  decode 0x80000000C#36 = .ok .cmdQuantize32 ∧ decode 0x800000015#36 = .error (.reservedCommand 0x15#32) ∧
  decode 0x800000005#36 = .error (.illegalCommand 0x5#32)

/-! ### Register reads and writes -/

/-- R230, R232, R234 to R239: every read completes in every state; the register's value goes to the host and the state does not change. (The answer
is recorded in the model's own field `results`, log 3. The fields of STATUS are stated in StatusFieldsStandWhereTheSpecPutsThem.) -/
def Obligations.ReadsAnswerTheRegisterAndChangeNothing : Prop :=
  ∀ s : State,
    exec .rdCmd s = .next { s with results := s.results ++ [0x00000000#32] } ∧
    exec .rdStatus s = .next { s with results := s.results ++ [s.status] } ∧
    exec .rdFreq s = .next { s with results := s.results ++ [s.freq] } ∧
    exec .rdRefclk s = .next { s with results := s.results ++ [s.refclk] } ∧
    exec .rdCal s = .next { s with results := s.results ++ [s.cal] } ∧
    exec .rdOptions s = .next { s with results := s.results ++ [optionsWord s.clkmul s.wave] } ∧
    exec .rdVariant s = .next { s with results := s.results ++ [variantWord s.sel] } ∧
    exec .rdWord s = .next { s with results := s.results ++ [s.word] }

/-- R28 (with the codes of R26 and R260): a read of STATUS answers the word whose fields stand at the bits and have the values of the rule, ERR by the table of result codes (so codes
above 8 never appear) and VAR by the table of variant codes; a write to it changes nothing; after reset it is 0x00000300. -/
def Obligations.StatusFieldsStandWhereTheSpecPutsThem : Prop :=
  State.reset.status = 0x00000300#32 ∧
  ∀ s : State,
    exec .rdStatus s = .next { s with results := s.results ++ [s.status] } ∧
    (∀ v, exec (.wrStatus v) s = .next s) ∧
    s.status.getLsbD 0 = decide (s.queue ≠ []) ∧
    s.status.getLsbD 1 = s.cfgValid ∧
    s.status.getLsbD 2 = decide (s.enc = .ready) ∧
    s.status.getLsbD 3 = false ∧
    s.status.extractLsb' 4 4 =
      (match s.err with
        | .none => 0#4
        | .busy => 1#4
        | .reserved => 2#4
        | .illegal => 3#4
        | .configured => 4#4
        | .badVariant => 5#4
        | .badClk => 6#4
        | .notConfig => 7#4
        | .notReady => 8#4) ∧
    s.status.extractLsb' 8 2 =
      (match s.cfgValid, s.cfgVariant with
        | true, .v28 => 0#2
        | true, .v32 => 1#2
        | true, .v32m => 2#2
        | false, _ => 3#2) ∧
    s.status.extractLsb' 10 22 = 0#22 ∧
    (s.status.extractLsb' 4 4).toNat ≤ 8

/-- R237, R238: a read of OPTIONS answers `{WAVE, CLKMUL}` in bits 1:0, a read of VARIANT the staging selector SEL, whatever `cfg_variant` is; bits 31:2 of both read 0; after reset
VARIANT reads 0x00000003. -/
def Obligations.OptionsAndVariantReadTheirFieldsAndZeros : Prop :=
  State.reset.readReg .variant = 0x00000003#32 ∧
  ∀ s : State, ∃ o v : Word,
    exec .rdOptions s = .next { s with results := s.results ++ [o] } ∧
    o.getLsbD 0 = s.clkmul ∧ o.getLsbD 1 = s.wave ∧ o.extractLsb' 2 30 = 0#30 ∧
    exec .rdVariant s = .next { s with results := s.results ++ [v] } ∧
    v.extractLsb' 0 2 = s.sel ∧ v.extractLsb' 2 30 = 0#30

/-- R241 to R247: every register write completes in every state; it stores what its rule says, writes to STATUS and WORD are ignored, and everything
else is unchanged, `err`, `queue` and the trace among it. -/
def Obligations.WritesStoreTheirRegisterAndNothingElse : Prop :=
  ∀ (s : State) (v : Word),
    exec (.wrStatus v) s = .next s ∧
    exec (.wrFreq v) s = .next { s with freq := v } ∧
    exec (.wrRefclk v) s = .next { s with refclk := v } ∧
    exec (.wrCal v) s = .next { s with cal := v } ∧
    exec (.wrOptions v) s = .next { s with clkmul := v.getLsbD 0, wave := v.getLsbD 1 } ∧
    exec (.wrVariant v) s = .next { s with sel := v.extractLsb' 0 2 } ∧
    exec (.wrWord v) s = .next s

/-- R231, R237, R238, R241 to R247: after a write to any register but CMD, that register reads the value written (OPTIONS and VARIANT: its bits 1:0, the
others 0; STATUS and WORD: as before), and every other register reads as before. -/
def Obligations.ReadAfterWriteGivesTheStoredValue : Prop :=
  ∀ (s : State) (r q : Reg) (v : Word), r ≠ .cmd →
    ∃ t, runTransaction (writeTransaction r v) s = .next t ∧
      t.readReg q =
        if q = r then
          (match r with
           | .freq | .refclk | .cal => v
           | .options | .variant => v &&& 3#32
           | .cmd | .status | .word => s.readReg r)
        else s.readReg q

/-! ### Commands -/

/-- R262 (with R261): the acceptance check of a CMD write, in its order. Each clause but the last is the first failing check; its code goes to `err` and nothing else changes. The
last clause: when no check fails the command is accepted and `err` is E_NONE. -/
def Obligations.FirstFailingCheckRejectsAndWritesOnlyErr : Prop :=
  ∀ (s : State) (v : Word),
    let run := runTransaction (writeTransaction .cmd v) s
    let reserved := v.extractLsb' 4 28 ≠ 0#28 ∨ (v.getLsbD 3 = true ∧ v.extractLsb' 0 3 ≠ 4#3)
    (s.queue ≠ [] → run = .next { s with err := .busy }) ∧
    (s.queue = [] → reserved → run = .next { s with err := .reserved }) ∧
    (s.queue = [] → ¬reserved → v.extractLsb' 0 3 = 5#3 ∨ v.extractLsb' 0 3 = 6#3 ∨ v.extractLsb' 0 3 = 7#3 →
      run = .next { s with err := .illegal }) ∧
    (s.queue = [] → v = 0x00000001#32 → s.cfgValid = true → run = .next { s with err := .configured }) ∧
    (s.queue = [] → v = 0x00000001#32 → s.cfgValid = false → s.sel = 3#2 → run = .next { s with err := .badVariant }) ∧
    (s.queue = [] → v = 0x00000001#32 → s.cfgValid = false → s.sel ≠ 3#2 → s.refclk = 0#32 → run = .next { s with err := .badClk }) ∧
    (s.queue = [] → v = 0x00000002#32 → s.cfgValid = false → run = .next { s with err := .notConfig }) ∧
    (s.queue = [] → v = 0x00000003#32 → s.cfgValid = false → run = .next { s with err := .notConfig }) ∧
    (s.queue = [] → v = 0x00000003#32 → s.cfgValid = true → s.enc = .uninit → run = .next { s with err := .notReady }) ∧
    (s.queue = [] → v = 0x00000004#32 ∨ v = 0x0000000C#32 → s.refclk = 0#32 → run = .next { s with err := .badClk }) ∧
    (s.queue = [] →
      v = 0x00000000#32 ∨
      (v = 0x00000001#32 ∧ s.cfgValid = false ∧ s.sel ≠ 3#2 ∧ s.refclk ≠ 0#32) ∨
      (v = 0x00000002#32 ∧ s.cfgValid = true) ∨
      (v = 0x00000003#32 ∧ s.cfgValid = true ∧ s.enc = .ready) ∨
      ((v = 0x00000004#32 ∨ v = 0x0000000C#32) ∧ s.refclk ≠ 0#32) →
      ∃ t, run = .next t ∧ t.err = .none)

/-- R150: NOP with the queue empty clears `err` and changes nothing else; while a program is queued it is rejected with E_BUSY. -/
def Obligations.NopClearsErr : Prop :=
  encode .cmdNop = 0x800000000#36 ∧
  ∀ s : State,
    (s.queue = [] → exec .cmdNop s = .next { s with err := .none }) ∧
    (s.queue ≠ [] → exec .cmdNop s = .next { s with err := .busy })

/-- R153: an accepted CONFIGURE latches the variant VARIANT.SEL names and the clock REFCLK holds, sets `cfg_valid`, clears `err`, and changes nothing else; it is rejected, in this order, with
E_BUSY, E_CONFIGURED, E_BADVARIANT, E_BADCLK, and then changes only `err`. -/
def Obligations.ConfigureLatchesVariantAndClock : Prop :=
  encode .cmdConfigure = 0x800000001#36 ∧
  ∀ s : State,
    (∀ v : Variant, s.queue = [] → s.cfgValid = false → s.refclk ≠ 0#32 →
      (s.sel = 0#2 ∧ v = .v28 ∨ s.sel = 1#2 ∧ v = .v32 ∨ s.sel = 2#2 ∧ v = .v32m) →
      exec .cmdConfigure s = .next { s with cfgVariant := v, cfgRefclk := s.refclk, cfgValid := true, err := .none }) ∧
    (s.queue ≠ [] → exec .cmdConfigure s = .next { s with err := .busy }) ∧
    (s.queue = [] → s.cfgValid = true → exec .cmdConfigure s = .next { s with err := .configured }) ∧
    (s.queue = [] → s.cfgValid = false → s.sel = 3#2 → exec .cmdConfigure s = .next { s with err := .badVariant }) ∧
    (s.queue = [] → s.cfgValid = false → s.sel ≠ 3#2 → s.refclk = 0#32 → exec .cmdConfigure s = .next { s with err := .badClk })

/-- R160, R154: an accepted INITIALIZE, in either encoder state, queues INIT28 or INIT32 by `cfg_variant`, then SetReady, clears `err`, and changes nothing else. -/
def Obligations.InitializeQueuesTheVariantsSequence : Prop :=
  ∀ s : State, s.queue = [] → s.cfgValid = true →
    exec .cmdInitialize s = .next { s with
      queue := (match s.cfgVariant with
        | .v28 => init28 Config.rom28
        | .v32 => init32 .v32 Config.initModeByte
        | .v32m => init32 .v32m Config.initModeByte) ++ [.setReady]
      err := .none }

/-- R170, R122, R154, R175: an accepted SET_FREQUENCY computes the word of the configured width from FREQ, CAL and the configured clock, queues `Quant(w)` and then SETF28 with OPTIONS.WAVE
(V28) or SETF32 with OPTIONS.CLKMUL (V32 and V32M), clears `err`, and changes nothing else; it is rejected, in this order, with E_BUSY, E_NOTCONFIG, E_NOTREADY. The premise on `cfg_refclk` is the
invariant stated in EveryStepKeepsTheInvariant. -/
def Obligations.SetFrequencyQueuesTheWordAndTheFrameProgram : Prop :=
  ∀ s : State,
    (∀ (n : Nat) (w : Word), s.queue = [] → s.cfgValid = true → s.enc = .ready → s.cfgRefclk ≠ 0#32 →
      n = (if s.cfgVariant = .v28 then 28 else 32) →
      w = BitVec.ofNat 32 (s.freq.toNat * 2 ^ (n + 31) / (s.cfgRefclk.toNat * (2 ^ 31 - s.cal.toInt).toNat) % 2 ^ n) →
      exec .cmdSetFrequency s = .next { s with
        queue := .quant w ::
          (match s.cfgVariant with
            | .v28 => setf28 Config.rom28 w s.wave
            | .v32 => setf32 .v32 w s.clkmul
            | .v32m => setf32 .v32m w s.clkmul)
        err := .none }) ∧
    (s.queue ≠ [] → exec .cmdSetFrequency s = .next { s with err := .busy }) ∧
    (s.queue = [] → s.cfgValid = false → exec .cmdSetFrequency s = .next { s with err := .notConfig }) ∧
    (s.queue = [] → s.cfgValid = true → s.enc = .uninit → exec .cmdSetFrequency s = .next { s with err := .notReady })

/-- R130, R122: an accepted QUANTIZE.28 or QUANTIZE.32 queues the one micro-step `Quant(w)`, with `w` from FREQ, REFCLK and CAL, in any configuration and encoder
state, clears `err`, and changes nothing else. -/
def Obligations.QuantizeQueuesTheWordFromStagingRegisters : Prop :=
  ∀ s : State, s.queue = [] → s.refclk ≠ 0#32 →
    exec .cmdQuantize28 s = .next { s with
      queue := [.quant (BitVec.ofNat 32 (s.freq.toNat * 2 ^ (28 + 31) / (s.refclk.toNat * (2 ^ 31 - s.cal.toInt).toNat) % 2 ^ 28))]
      err := .none } ∧
    exec .cmdQuantize32 s = .next { s with
      queue := [.quant (BitVec.ofNat 32 (s.freq.toNat * 2 ^ (32 + 31) / (s.refclk.toNat * (2 ^ 31 - s.cal.toInt).toNat) % 2 ^ 32))]
      err := .none }

/-! ### The quantizer -/

/-- R122 (with the effective clock of R121): the word is the rational `f × 2^N / effclk`, with `effclk = clk × (1 − sint(c) / 2^31)`, rounded down and reduced modulo `2^N`; and it is the
integer quotient of the rule's second line. -/
def Obligations.QuantizeIsTheRationalFormulaRoundedDown : Prop :=
  ∀ (f clk n : Nat) (c : Word), 1 ≤ clk →
    (quantize f clk c n : Int) =
      ⌊((f : ℚ) * 2 ^ n) / ((clk : ℚ) * (1 - (c.toInt : ℚ) / 2 ^ 31))⌋ % 2 ^ n ∧
    (quantize f clk c n : Int) = (f * 2 ^ (n + 31)) / (clk * (2 ^ 31 - c.toInt)) % 2 ^ n

/-- R121, R126, R127: for every clock of at least 1 the divisor is between 1 and `(2^32 − 1) × 2^32`, and the dividend is below `2^95`. -/
def Obligations.DivisorIsNeverZeroAndOperandsFit : Prop :=
  ∀ (f clk c : Word) (n : Nat), 1 ≤ clk.toNat → n = 28 ∨ n = 32 →
    1 ≤ divisor clk.toNat c ∧ divisor clk.toNat c ≤ (2 ^ 32 - 1) * 2 ^ 32 ∧ dividend f.toNat n < 2 ^ 95

/-- R126 to R129: the fixed-width datapath (33-bit factor, 64-bit product, 95-bit dividend and quotient, truncation) computes exactly the word of R122. -/
def Obligations.DatapathComputesTheTuningWord : Prop :=
  ∀ qf qclk qcal : Word, qclk ≠ 0#32 →
    quantizerDatapath qf qclk qcal false = tuningWord qf qclk qcal 28 ∧
    quantizerDatapath qf qclk qcal true = tuningWord qf qclk qcal 32

/-- R123, R131.1: the word is always below `2^N`, and the exact quotient reaches `2^N`, so that it wraps, exactly when `f >= effclk`; without a wrap the word is the
exact quotient. -/
def Obligations.WordWrapsExactlyAtTheEffectiveClock : Prop :=
  ∀ (f clk c : Word) (n : Nat), 1 ≤ clk.toNat → n = 28 ∨ n = 32 →
    quantize f.toNat clk.toNat c n < 2 ^ n ∧
    (2 ^ n ≤ dividend f.toNat n / divisor clk.toNat c ↔ (clk.toNat : Int) * (2 ^ 31 - c.toInt) ≤ f.toNat * 2 ^ 31) ∧
    ((f.toNat : Int) * 2 ^ 31 < clk.toNat * (2 ^ 31 - c.toInt) →
      quantize f.toNat clk.toNat c n = dividend f.toNat n / divisor clk.toNat c)

/-- R131.2: within range the word does not decrease as the frequency increases. -/
def Obligations.WordIsMonotoneInFrequencyWithinRange : Prop :=
  ∀ (f g clk c : Word) (n : Nat), 1 ≤ clk.toNat → n = 28 ∨ n = 32 → f.toNat ≤ g.toNat →
    (g.toNat : Int) * 2 ^ 31 < clk.toNat * (2 ^ 31 - c.toInt) →
    quantize f.toNat clk.toNat c n ≤ quantize g.toNat clk.toNat c n

/-- R131.3 (90_conflicts.md C4), its first sentence: a positive calibration never lowers the word, both within range. -/
def Obligations.PositiveCalibrationNeverLowersTheWord : Prop :=
  ∀ (f clk c : Word) (n : Nat), 1 ≤ clk.toNat → n = 28 ∨ n = 32 → 0 < c.toInt →
    (f.toNat : Int) * 2 ^ 31 < clk.toNat * (2 ^ 31 - c.toInt) →
    quantize f.toNat clk.toNat 0#32 n ≤ quantize f.toNat clk.toNat c n

/-- R131.4, R131.5: a quarter of the clock gives exactly `2^30` (N = 32) and `2^26` (N = 28) without calibration; frequency 0 gives 0 for every calibration. -/
def Obligations.QuarterClockAndZeroFrequencyAreExact : Prop :=
  (∀ clk : Word, 1 ≤ clk.toNat → clk.toNat % 4 = 0 →
    quantize (clk.toNat / 4) clk.toNat 0#32 32 = 2 ^ 30 ∧ quantize (clk.toNat / 4) clk.toNat 0#32 28 = 2 ^ 26) ∧
  (∀ clk c : Word, 1 ≤ clk.toNat → quantize 0 clk.toNat c 28 = 0 ∧ quantize 0 clk.toNat c 32 = 0)

/-- R131.6: within range the word is at most `f × 2^N / effclk` and more than that less 1 (both sides multiplied out). -/
def Obligations.WordIsLessThanOneStepBelowTheRequest : Prop :=
  ∀ (f clk c : Word) (n : Nat), 1 ≤ clk.toNat → n = 28 ∨ n = 32 →
    (f.toNat : Int) * 2 ^ 31 < clk.toNat * (2 ^ 31 - c.toInt) →
    (quantize f.toNat clk.toNat c n : Int) * (clk.toNat * (2 ^ 31 - c.toInt)) ≤ f.toNat * 2 ^ (n + 31) ∧
    (f.toNat : Int) * 2 ^ (n + 31) < (quantize f.toNat clk.toNat c n + 1) * (clk.toNat * (2 ^ 31 - c.toInt))

/-! ### The transmitter and the frame programs -/

/-- R200, R206, R208: a receiver that samples the data line at the rising clock edges, or at the falling ones, reads exactly the bits sent, for every variant and
every level the line had before. -/
def Obligations.ReceiverReadsTheBitsSentAtEitherEdge : Prop :=
  ∀ (v : Variant) (rising d : Bool) (bits : List Bool),
    sampleBits rising d (busEvents (bits.flatMap (sendBit v))) = bits

/-- R171, R206, R90, R175, R64, R65: SETF32, for V32 and V32M alike, is exactly the 32 bits of the word LSB first, the 8 bits of the control byte LSB first, each with its clock pulse and its
settle delay, and then one commit; and a 40-bit receiver of it ends with `{c, w}`: the word in bits 31:0, the control byte in bits 39:32, which is 1 exactly when CLKMUL is 1. -/
def Obligations.SetFrequency32StreamCarriesWordAndControlByte : Prop :=
  ∀ (v : Variant) (w : Word) (clkmul rising d : Bool), v = .v32 ∨ v = .v32m →
    setf32 v w clkmul =
      ((List.range 32).flatMap fun k => [MicroStep.data (w.getLsbD k), .clk true, .clk false, .settle])
        ++ ((List.range 8).flatMap fun k => [MicroStep.data (decide (k = 0) && clkmul), .clk true, .clk false, .settle])
        ++ [.load true, .load false] ∧
    receive40 (sampleBits rising d (busEvents (setf32 v w clkmul))) = (if clkmul then 0x01#8 else 0x00#8) ++ w ∧
    (sampleBits rising d (busEvents (setf32 v w clkmul))).length = 40 ∧
    (committedFrames d [] (busEvents (setf32 v w clkmul))).map List.length = [40]

/-- R64, R87, R88, R89, R180, R182: a receiver of SETF28 takes five 16-bit frames, each at its own commit: the control frame with TRI_BIT when WAVE is 1, the low and
the high half of the word behind the bits 01, and the two fixed frames. -/
def Obligations.SetFrequency28SendsFiveCommittedFrames : Prop :=
  ∀ (rom : Rom28) (w : Word) (wave d : Bool),
    (committedFrames d [] (busEvents (setf28 rom w wave))).map receive16 =
      [rom.setfCtrl ||| (if wave then rom.triBit else 0#16),
       0x4000#16 ||| (w &&& 0x3FFF#32).setWidth 16,
       0x4000#16 ||| ((w >>> 14) &&& 0x3FFF#32).setWidth 16,
       rom.setfPhase, rom.setfRestore] ∧
    (committedFrames d [] (busEvents (setf28 rom w wave))).map List.length = [16, 16, 16, 16, 16]

/-- R88 (and R65): the two frequency frames are 0x4000 with the low and with the high 14 bits of the word; both begin with the bits 01; and the 28-bit word is their data bits put
together. -/
def Obligations.FrequencyFramesConcatenateBackToTheWord : Prop :=
  ∀ w : Word, w.toNat < 2 ^ 28 →
    frameLo w = 0x4000#16 ||| (w &&& 0x3FFF#32).setWidth 16 ∧
    frameHi w = 0x4000#16 ||| ((w >>> 14) &&& 0x3FFF#32).setWidth 16 ∧
    (frameHi w).extractLsb' 14 2 = 1#2 ∧ (frameLo w).extractLsb' 14 2 = 1#2 ∧
    ((frameHi w).extractLsb' 0 14 ++ (frameLo w).extractLsb' 0 14 : BitVec 28) = w.setWidth 28

/-- R162: a receiver of INIT28 takes exactly the six ROM frames INIT0 to INIT5 in order, 16 bits each, each at its own commit. -/
def Obligations.Initialize28SendsTheSixRomFrames : Prop :=
  ∀ (rom : Rom28) (d : Bool),
    (committedFrames d [] (busEvents (init28 rom))).map receive16 = [rom.init0, rom.init1, rom.init2, rom.init3, rom.init4, rom.init5] ∧
    (committedFrames d [] (busEvents (init28 rom))).map List.length = [16, 16, 16, 16, 16, 16]

/-- R164, R165, R206: INIT32 starts with one clock strobe and one load pulse that do not drive the data line, then sends 32 bits of value 0 and the mode byte LSB first, each
with its settle delay, then commits once. -/
def Obligations.Initialize32SendsStrobePulseZerosAndModeByte : Prop :=
  ∀ (v : Variant) (mode : BitVec 8), v = .v32 ∨ v = .v32m →
    init32 v mode =
      [.clk true, .clk false, .load true, .load false]
        ++ (List.replicate 32 [MicroStep.data false, .clk true, .clk false, .settle]).flatten
        ++ ((List.range 8).flatMap fun k => [MicroStep.data (mode.getLsbD k), .clk true, .clk false, .settle])
        ++ [.load true, .load false]

/-- R211: the number of micro-steps, bus events and Data events of every program, whatever the ROM, the word and the options. -/
def Obligations.ProgramLengthsAreThoseOfTheTable : Prop :=
  ∀ (rom : Rom28) (mode : BitVec 8) (w : Word) (clkmul wave : Bool),
    let bits (q : List MicroStep) := (q.filter fun m => m == .data true || m == .data false).length
    let sizes (q : List MicroStep) := (q.length, (busEvents q).length, bits q)
    sizes (.quant w :: setfProgram rom w clkmul wave .v28) = (251, 250, 80) ∧
    sizes (.quant w :: setfProgram rom w clkmul wave .v32) = (163, 162, 40) ∧
    sizes (.quant w :: setfProgram rom w clkmul wave .v32m) = (163, 162, 40) ∧
    sizes (initProgram rom mode .v28 ++ [.setReady]) = (301, 300, 96) ∧
    sizes (initProgram rom mode .v32 ++ [.setReady]) = (167, 166, 40) ∧
    sizes (initProgram rom mode .v32m ++ [.setReady]) = (167, 166, 40) ∧
    sizes [.quant w] = (1, 0, 0)

/-- R102: the frame programs held in the ROM expand to the programs of 41_protocol_encoder.md, for every variant. -/
def Obligations.RomProgramsExpandToTheSequences : Prop :=
  ∀ (rom : Rom28) (mode : BitVec 8) (w : Word) (clkmul wave : Bool) (v : Variant),
    expand v (romInit rom mode v) = initProgram rom mode v ∧
    expand v (romSetf rom w clkmul wave v) = setfProgram rom w clkmul wave v

/-- R37, R212: the shift-register datapath performs exactly the micro-steps of its ROM program, in order, and then stops, for every program of fewer than 16 entries whose frames have
1 to 32 bits, and whatever its registers held when the job was accepted (log 13). -/
def Obligations.ShiftRegisterPerformsTheMicroStepList : Prop :=
  ∀ (j : SeqJob) (held : SeqRegs) (fuel : Nat), j.entries.length < 16 →
    (∀ val n o, FrameEntry.frame val n o ∈ j.entries → 1 ≤ n ∧ n ≤ 32) →
    j.microSteps.length ≤ fuel → (j.start held).unroll j fuel = j.microSteps

/-- R306 (informative): the cycles of a SET_FREQUENCY are `QLAT + 250` on V28 and `QLAT + 122 + 40 × SETTLE_D` on V32 and V32M. -/
def Obligations.SetFrequencyCyclesAreTheInformativeOnes : Prop :=
  ∀ (rom : Rom28) (w : Word) (clkmul wave : Bool) (settleD qlat : Nat),
    programCycles settleD qlat (.quant w :: setfProgram rom w clkmul wave .v28) = qlat + 250 ∧
    programCycles settleD qlat (.quant w :: setfProgram rom w clkmul wave .v32) = qlat + 122 + 40 * settleD ∧
    programCycles settleD qlat (.quant w :: setfProgram rom w clkmul wave .v32m) = qlat + 122 + 40 * settleD

/-- R100 in part, 92_eei_decisions.md D22: the block's ROM meets the three constraints on SETF_CTRL and TRI_BIT (exactly two bits, exactly one bit, disjoint), and every ROM that meets these three is one
the model's free ROM may be. It is the model's choice (log 7) not to express the constraints on phase-zero and sine frames, whose field layout is not in the source. -/
def Obligations.RomIsAnyRomThatMeetsItsConstraints : Prop :=
  Config.rom28.wellFormed = true ∧ ∀ rom : Rom28, rom.wellFormed = true → ∃ c : RomChoice, c.toRom = rom

/-! ### Steps -/

/-- The host's turn runs the decoded instruction (R67, R70.1, R230, R231): the step is exec of that instruction, with the operation and the turn used up. The word placed by
withFetchWord is the one the next step runs. (The fields `program` and `turns` are the model's own, log 1 and 2.) -/
def Obligations.StepRunsTheDecodedInstruction : Prop :=
  ∀ (s : State) (i : Instr) (t : Transaction),
    decode t = .ok i →
    (∀ rest, nextTurn s = .host → s.program = .transaction t :: rest →
      step s = exec i { s with program := rest, turns := s.turns.tail }) ∧
    (∀ nbits, step (s.withFetchWord nbits t.toNat) = exec i s)

/-- R35, R210: on the sequencer's turn the step performs the first micro-step of the queue, with the effect of the table of R35, and drops it; with the queue empty nothing
changes (the turn is used up, log 1). -/
def Obligations.SequencerPerformsTheFirstMicroStep : Prop :=
  ∀ (s : State) (q : List MicroStep), nextTurn s = .sequencer →
    (s.queue = [] → step s = .next { s with turns := s.turns.tail }) ∧
    (∀ w, s.queue = .quant w :: q → step s = .next { s with word := w, queue := q, turns := s.turns.tail }) ∧
    (∀ b, s.queue = .data b :: q →
      step s = .next { s with lineData := b, trace := s.trace ++ [.data b], queue := q, turns := s.turns.tail }) ∧
    (∀ b, s.queue = .clk b :: q →
      step s = .next { s with lineClk := b, trace := s.trace ++ [.clk b], queue := q, turns := s.turns.tail }) ∧
    (∀ b, s.queue = .load b :: q →
      step s = .next { s with lineLoad := b, trace := s.trace ++ [.load b], queue := q, turns := s.turns.tail }) ∧
    (s.queue = .settle :: q → step s = .next { s with trace := s.trace ++ [.settle], queue := q, turns := s.turns.tail }) ∧
    (s.queue = .setReady :: q → step s = .next { s with enc := .ready, queue := q, turns := s.turns.tail })

/-- R290: the reset input, in any state: every component of R20 at its reset value, the lines LOW, `Reset` appended to the trace, and STATUS 0x00000300.
(`cfg_variant` has no reset value in the spec, log 4, and is not named here.) -/
def Obligations.ResetInputRestoresEveryResetValue : Prop :=
  ∀ s : State, nextTurn s = .rst →
    ∃ t, step s = .next t ∧ t.status = 0x00000300#32 ∧
      t.freq = 0#32 ∧ t.refclk = 0#32 ∧ t.cal = 0#32 ∧ t.clkmul = false ∧ t.wave = false ∧ t.sel = 3#2 ∧ t.word = 0#32 ∧
      t.cfgValid = false ∧ t.cfgRefclk = 0#32 ∧ t.enc = .uninit ∧ t.err = .none ∧ t.queue = [] ∧
      t.lineData = false ∧ t.lineClk = false ∧ t.lineLoad = false ∧ t.trace = s.trace ++ [.reset]

/-- R291: a reset after `k` micro-steps of a program leaves in the trace the events of those `k` micro-steps and then `Reset`, and no micro-step is left. -/
def Obligations.ResetMidProgramLeavesThePerformedEvents : Prop :=
  ∀ (s : State) (k : Nat) (ts : List Turn), k ≤ s.queue.length →
    s.turns = List.replicate k .sequencer ++ (.rst :: ts) →
    ∃ t, runSteps (k + 1) s = .next t ∧ t.trace = s.trace ++ busEvents (s.queue.take k) ++ [.reset] ∧ t.queue = [] ∧
      t.enc = .uninit ∧ t.cfgValid = false ∧ t.turns = ts

/-- R20, R28, R40, R207: the power-on state has the values of R20, an empty trace, all lines LOW, and STATUS 0x00000300; a later reset appends
`Reset` to the trace. (`cfg_variant`, log 4, and the model's own
`program`, `turns` and `results`, log 1 to 3, are not named here.) -/
def Obligations.ResetStateHasTheValuesOfTheTable : Prop :=
  State.reset.freq = 0#32 ∧ State.reset.refclk = 0#32 ∧ State.reset.cal = 0#32 ∧ State.reset.clkmul = false ∧
  State.reset.wave = false ∧ State.reset.sel = 3#2 ∧ State.reset.word = 0#32 ∧ State.reset.cfgValid = false ∧
  State.reset.cfgRefclk = 0#32 ∧ State.reset.enc = .uninit ∧ State.reset.err = .none ∧ State.reset.queue = [] ∧
  State.reset.lineData = false ∧ State.reset.lineClk = false ∧ State.reset.lineLoad = false ∧ State.reset.trace = [] ∧
  State.reset.status = 0x00000300#32 ∧
  (∀ s : State, s.resetInput.trace = s.trace ++ [.reset])

/-- R35, R71.4, R210, R302: while a program is queued, no step but a reset can change what it will do: the queue stays or loses its first micro-step, and the trace together
with the events still to come stays the same. -/
def Obligations.QueuedProgramCannotBeDisturbed : Prop :=
  ∀ s t : State, s.queue ≠ [] → nextTurn s ≠ .rst → step s = .next t →
    (t.queue = s.queue ∨ ∃ m, s.queue = m :: t.queue) ∧
    t.trace ++ busEvents t.queue = s.trace ++ busEvents s.queue

/-- R70.4 (fairness), R210: when no turns are chosen, the sequencer performs the whole queue: after as many steps as it holds, the queue is empty, its events stand in the
trace in order, and the host's program and the staging and configuration registers are untouched. -/
def Obligations.SequencerDrainsTheQueue : Prop :=
  ∀ s : State, s.turns = [] →
    ∃ t, runSteps s.queue.length s = .next t ∧ t.queue = [] ∧ t.trace = s.trace ++ busEvents s.queue ∧ t.turns = [] ∧
      t.program = s.program ∧ t.results = s.results ∧ t.freq = s.freq ∧ t.refclk = s.refclk ∧ t.cal = s.cal ∧
      t.clkmul = s.clkmul ∧ t.wave = s.wave ∧ t.sel = s.sel ∧ t.cfgValid = s.cfgValid ∧ t.cfgVariant = s.cfgVariant ∧
      t.cfgRefclk = s.cfgRefclk ∧ t.err = s.err

/-- R170, R27, R71.3, R211: a SET_FREQUENCY transaction accepted in an idle, configured, READY block is sent whole: once the host has issued it and the sequencer has run, WORD holds
the word of R122, the trace has grown by exactly the frame program of the variant, the encoder is still READY and BUSY is 0. -/
def Obligations.AcceptedSetFrequencyIsSentWhole : Prop :=
  ∀ (s : State) (rest : List HostOp) (n : Nat) (w : Word),
    s.turns = [] → s.queue = [] → s.program = .transaction 0x800000003#36 :: rest → s.cfgValid = true → s.enc = .ready →
    s.cfgRefclk ≠ 0#32 → n = (if s.cfgVariant = .v28 then 28 else 32) →
    w = BitVec.ofNat 32 (s.freq.toNat * 2 ^ (n + 31) / (s.cfgRefclk.toNat * (2 ^ 31 - s.cal.toInt).toNat) % 2 ^ n) →
    ∃ t, runSteps (1 + if s.cfgVariant = .v28 then 251 else 163) s = .next t ∧ t.word = w ∧
      t.trace = s.trace ++ busEvents (setfProgram Config.rom28 w s.clkmul s.wave s.cfgVariant) ∧
      t.queue = [] ∧ t.enc = .ready ∧ t.err = .none ∧ t.program = rest

/-- R160, R161, R163, R211: an INITIALIZE transaction accepted in an idle, configured block is sent whole, in either encoder state and with the same events each time: the trace grows by
exactly the initialization sequence of the variant, the encoder is READY and BUSY is 0; WORD is unchanged. -/
def Obligations.AcceptedInitializeIsSentWholeAndMakesReady : Prop :=
  ∀ (s : State) (rest : List HostOp),
    s.turns = [] → s.queue = [] → s.program = .transaction 0x800000002#36 :: rest → s.cfgValid = true →
    ∃ t, runSteps (1 + if s.cfgVariant = .v28 then 301 else 167) s = .next t ∧
      t.trace = s.trace ++ busEvents (initProgram Config.rom28 Config.initModeByte s.cfgVariant) ∧
      t.enc = .ready ∧ t.queue = [] ∧ t.err = .none ∧ t.word = s.word ∧ t.program = rest

/-- R104, R71.3, R33: a turn of `wait_idle` answers STATUS; while BUSY is 1 the host stays in the loop, and it leaves the loop exactly when the queue is empty. Nothing else changes. -/
def Obligations.WaitIdleLoopsUntilTheQueueIsEmpty : Prop :=
  ∀ (s : State) (rest : List HostOp), nextTurn s = .host → s.program = .waitIdle :: rest →
    step s = .next { s with
      program := if s.queue = [] then rest else s.program
      turns := s.turns.tail
      results := s.results ++ [s.status] }

/-- R103, R104: the pseudo-instructions are the accesses of their expansions, each in the 36-bit form of R80. -/
def Obligations.PseudoInstructionsExpandToTheirAccesses : Prop :=
  ∀ v clk f x : Word,
    assemble (.config v.toNat clk.toNat) =
      [.transaction (0xE#4 ++ v), .transaction (0xB#4 ++ clk), .transaction 0x800000001#36] ∧
    assemble (.calibrate x.toNat) = [.transaction (0xC#4 ++ x)] ∧
    assemble (.setf f.toNat) = [.transaction (0xA#4 ++ f), .transaction 0x800000003#36, .waitIdle] ∧
    assemble .init = [.transaction 0x800000002#36, .waitIdle] ∧
    assemble .waitIdle = [.waitIdle] ∧
    assemble (.quant28 f.toNat clk.toNat) =
      [.transaction (0xA#4 ++ f), .transaction (0xB#4 ++ clk), .transaction 0x800000004#36, .waitIdle, .transaction 0x700000000#36] ∧
    assemble (.quant32 f.toNat clk.toNat) =
      [.transaction (0xA#4 ++ f), .transaction (0xB#4 ++ clk), .transaction 0x80000000C#36, .waitIdle, .transaction 0x700000000#36]

/-- R61, R68: a byte-addressed host reaches register `i` at the base plus `4 × i`; an address inside the block's 32 bytes whose offset bits 1:0 are not 0 is refused; an address outside
the eight registers does not exist and faults (log 10). -/
def Obligations.ByteAddressesReachTheRegistersOrStop : Prop :=
  ∀ (s : State) (write : Bool) (data : Word) (addr : Nat),
    (∀ i : BitVec 3, addr = Config.k3ddsBase + 4 * i.toNat →
      runByteAccess write addr data s = runTransaction (transaction write i data) s) ∧
    (Config.k3ddsBase ≤ addr → addr < Config.k3ddsBase + 32 → (addr - Config.k3ddsBase) % 4 ≠ 0 →
      runByteAccess write addr data s = .refused (.misalignedByteAddress addr)) ∧
    (addr < Config.k3ddsBase ∨ Config.k3ddsBase + 32 ≤ addr →
      runByteAccess write addr data s = .fault (.unmappedByteAddress addr))

/-- R264, R61, R68: the block raises nothing: when every operation of the host is one its port can express, every step answers a next state, and that stays so. -/
def Obligations.SafeHostNeverStopsTheMachine : Prop :=
  ∀ s : State, s.SafeHost → ∃ t, step s = .next t ∧ t.SafeHost

/-! ### Invariants and whole-machine rules -/

/-- The invariant holds in the power-on state. -/
def Obligations.InvariantHoldsAtReset : Prop := State.reset.Inv

/-- R207 to R209, R184, R262, R36, R40: every step, of the host, the sequencer or the reset input, keeps the invariant: configuration and clock consistent, lines and pending pulses well-shaped,
line levels those of the trace, and no partial frame committed, of the bits sent since the last reset. It is the model's choice (log 17) to count from a reset on: R291 leaves unknown what the chip still holds
of a frame that a reset cut off, and of that this says nothing. -/
def Obligations.EveryStepKeepsTheInvariant : Prop :=
  ∀ s t : State, s.Inv → step s = .next t → t.Inv

/-- R207, R209: in every state of the invariant the clock and the load line are not both HIGH, and with no micro-step pending both are LOW; and a clock or load micro-step always
changes its line (R202). -/
def Obligations.ClockAndLoadLinesPulseApart : Prop :=
  ∀ s : State, s.Inv →
    ¬(s.lineClk = true ∧ s.lineLoad = true) ∧
    (s.queue = [] → s.lineClk = false ∧ s.lineLoad = false) ∧
    (∀ b q, s.queue = .clk b :: q → s.lineClk = !b) ∧
    (∀ b q, s.queue = .load b :: q → s.lineLoad = !b)

/-- R208, R209, R202: in every state of the invariant, when the next step performs a `Data` micro-step, whether or not it changes the level, the clock and the load line are LOW before and after it; and no
step but that and a reset changes the data line. So data never changes during a pulse, except by a reset. -/
def Obligations.DataLineOnlyChangesWithClockAndLoadLow : Prop :=
  ∀ s t : State, s.Inv → step s = .next t →
    (∀ b q, nextTurn s = .sequencer → s.queue = .data b :: q →
      t.lineData = b ∧ s.lineClk = false ∧ s.lineLoad = false ∧ t.lineClk = false ∧ t.lineLoad = false) ∧
    (nextTurn s ≠ .rst → t.lineData ≠ s.lineData → nextTurn s = .sequencer ∧ ∃ b q, s.queue = .data b :: q)

/-- R184, R162, R164, R165, R171, R180: whenever a step raises the load line in a state of the invariant, the bits sent since it last rose, or since a reset, are a whole frame or stream (16 bits for V28, 40 for
V32 and V32M); the one exception is the start pulse of INIT32, with no bit sent and exactly the rest of INIT32 pending. It is the model's choice (log 17) to count from a reset on: of what the chip still holds of a
frame that a reset cut off, it says nothing. -/
def Obligations.NoPartialFrameIsEverCommitted : Prop :=
  ∀ s t : State, s.Inv → step s = .next t → t.trace = s.trace ++ [.load true] →
    match s.cfgVariant with
    | .v28 => openBits s.trace = 16
    | .v32 => openBits s.trace = 40 ∨
        (openBits s.trace = 0 ∧ s.queue = (init32 .v32 Config.initModeByte).drop 2 ++ [.setReady])
    | .v32m => openBits s.trace = 40 ∨
        (openBits s.trace = 0 ∧ s.queue = (init32 .v32m Config.initModeByte).drop 2 ++ [.setReady])

/-- R30: once `cfg_valid` is 1, no step but a reset changes the configuration latch; no micro-step ever writes it, and no transaction but the CONFIGURE command does; at reset it is not valid. -/
def Obligations.ConfigurationIsFixedUntilReset : Prop :=
  State.reset.cfgValid = false ∧ State.reset.cfgRefclk = 0#32 ∧
  (∀ s t : State, step s = .next t → nextTurn s ≠ .rst → s.cfgValid = true ∨ nextTurn s = .sequencer →
    t.cfgValid = s.cfgValid ∧ t.cfgVariant = s.cfgVariant ∧ t.cfgRefclk = s.cfgRefclk) ∧
  (∀ (s u : State) (t : Transaction), runTransaction t s = .next u → t ≠ 0x800000001#36 ∨ u.err ≠ .none →
    u.cfgValid = s.cfgValid ∧ u.cfgVariant = s.cfgVariant ∧ u.cfgRefclk = s.cfgRefclk)

/-- R161 (R31): in a state of the invariant, the micro-step SetReady is the last of the queue; performing it makes the encoder READY and the queue empty in the same step, so that STATUS then shows READY = 1
with BUSY = 0; `enc` changes by no other step but a reset, which makes it UNINIT; and no instruction but INITIALIZE adds a SetReady to the queue. -/
def Obligations.EncoderBecomesReadyOnlyByTheLastMicroStep : Prop :=
  (∀ s t : State, s.Inv → step s = .next t → t.enc ≠ s.enc →
    (nextTurn s = .sequencer ∧ s.queue = [.setReady] ∧ t.enc = .ready ∧ t.queue = []) ∨ (nextTurn s = .rst ∧ t.enc = .uninit)) ∧
  (∀ (s : State) (q : List MicroStep), s.Inv → nextTurn s = .sequencer → s.queue = .setReady :: q →
    q = [] ∧ ∃ t, step s = .next t ∧ t.enc = .ready ∧ t.queue = [] ∧ t.status.getLsbD 2 = true ∧ t.status.getLsbD 0 = false) ∧
  (∀ s : State, nextTurn s = .rst → ∃ t, step s = .next t ∧ t.enc = .uninit) ∧
  (∀ (i : Instr) (s t : State), exec i s = .next t → .setReady ∈ t.queue → .setReady ∈ s.queue ∨ i = .cmdInitialize)

/-- R27, R35, R36, R40: a host access never changes WORD, the lines, the trace or `enc`; the sequencer changes WORD only by performing a Quant micro-step. -/
def Obligations.OnlyMicroStepsChangeWordLinesAndTrace : Prop :=
  ∀ s t : State, step s = .next t →
    (nextTurn s = .host → t.word = s.word ∧ t.lineData = s.lineData ∧ t.lineClk = s.lineClk ∧ t.lineLoad = s.lineLoad ∧
      t.trace = s.trace ∧ t.enc = s.enc) ∧
    (nextTurn s = .sequencer → t.word ≠ s.word → s.queue = .quant t.word :: t.queue)

/-- R32, R230, R231, R261: apart from a reset, only a write to CMD changes `err`, and only a write to CMD adds to the queue: any other transaction leaves both as they were. -/
def Obligations.OnlyCommandWritesChangeErrOrFillTheQueue : Prop :=
  (∀ (s u : State) (t : Transaction), runTransaction t s = .next u → t.extractLsb' 32 4 ≠ 8#4 → u.err = s.err ∧ u.queue = s.queue) ∧
  (∀ s t : State, step s = .next t → nextTurn s = .sequencer → t.err = s.err ∧ t.queue = s.queue.tail)

/-- R4 (R154, R175): V32 and V32M have identical behaviour. From two states that differ only in that code, and in bits 9:8 of the host's answers so far, through which `STATUS.VAR` shows it, a step has the same
outcome and leads to two such states again; every instruction but a read of STATUS gives the host exactly the same answers; and the words of STATUS are equal outside bits 9:8. -/
def Obligations.V32AndV32MBehaveAlike : Prop :=
  ∀ s s' : State, alikeUpToVariant s s' →
    (∀ t, step s = .next t → ∃ t', step s' = .next t' ∧ alikeUpToVariant t t') ∧
    (∀ f, step s = .fault f → step s' = .fault f) ∧ (∀ r, step s = .refused r → step s' = .refused r) ∧
    (∀ i, i ≠ .rdStatus → ∃ u u' answers, exec i s = .next u ∧ exec i s' = .next u' ∧
      u.results = s.results ++ answers ∧ u'.results = s'.results ++ answers) ∧
    (∀ k, k ≠ 8 → k ≠ 9 → s.status.getLsbD k = s'.status.getLsbD k)

/-- R35, R71.1, R125, R302: a queued program does not depend on FREQ, REFCLK, CAL, OPTIONS or VARIANT, nor on what the host does while it runs: two such states with a program queued, on the same turn,
lead to two such states, with the same trace, lines, WORD and queue. -/
def Obligations.RunningProgramIgnoresStagingRegistersAndHost : Prop :=
  ∀ s s' t t' : State, alikeUpToStaging s s' → s.queue ≠ [] → step s = .next t → step s' = .next t' → alikeUpToStaging t t'
end

