-- ==== Sys2Proof/Laws/Decode.lean ====
section
/-! SUPPORT. The fields of a transaction that is put together from its fields, and decoding on them. -/

namespace Sys2Proof

theorem transaction_getLsbD (we : Bool) (idx : BitVec 3) (data : Word) (k : Nat) :
    (transaction we idx data).getLsbD k =
      if k < 32 then data.getLsbD k else if k - 32 < 3 then idx.getLsbD (k - 32) else (BitVec.ofBool we).getLsbD (k - 32 - 3) := by
  unfold transaction
  rw [show BitVec.getLsbD (w := 36) (BitVec.ofBool we ++ idx ++ data) k
    = BitVec.getLsbD (w := 1 + 3 + 32) (BitVec.ofBool we ++ idx ++ data) k from rfl]
  rw [BitVec.getLsbD_append, BitVec.getLsbD_append]

@[simp] theorem writeEnable_transaction (we : Bool) (idx : BitVec 3) (data : Word) :
    writeEnable (transaction we idx data) = we := by
  simp only [writeEnable, transaction_getLsbD]
  cases we <;> rfl

@[simp] theorem regIndex_transaction (we : Bool) (idx : BitVec 3) (data : Word) :
    regIndex (transaction we idx data) = idx := by
  apply BitVec.eq_of_getLsbD_eq
  intro k hk
  rw [regIndex, BitVec.getLsbD_extractLsb', transaction_getLsbD]
  simp [hk]

@[simp] theorem dataField_transaction (we : Bool) (idx : BitVec 3) (data : Word) :
    dataField (transaction we idx data) = data := by
  apply BitVec.eq_of_getLsbD_eq
  intro k hk
  rw [dataField, BitVec.getLsbD_extractLsb', transaction_getLsbD]
  simp [hk]

/-- A transaction is its three fields. -/
theorem transaction_fields (t : Transaction) : transaction (writeEnable t) (regIndex t) (dataField t) = t := by
  apply BitVec.eq_of_getLsbD_eq
  intro k hk
  rw [transaction_getLsbD, regIndex, dataField, writeEnable, BitVec.getLsbD_extractLsb', BitVec.getLsbD_extractLsb']
  by_cases h1 : k < 32
  · simp [h1]
  · by_cases h2 : k - 32 < 3
    · simp [h1, h2, show 32 + (k - 32) = k by omega]
    · simp [show k = 35 by omega]

@[simp] theorem Reg.ofIndex_index (r : Reg) : Reg.ofIndex r.index = r := by cases r <;> rfl

@[simp] theorem Reg.index_ofIndex (i : BitVec 3) : (Reg.ofIndex i).index = i := by revert i; decide

/-- A write decodes by its register and its data. -/
theorem decode_writeTransaction (r : Reg) (v : Word) : decode (writeTransaction r v) = decodeWrite r v := by
  simp [decode, writeTransaction]

/-- A read decodes by its register alone. -/
theorem decode_readTransaction (r : Reg) : decode (readTransaction r) = .ok (decodeRead r) := by
  simp [decode, readTransaction]

/-- A command word without reserved bits is a number below 16. -/
theorem lt_sixteen_of_unreserved {v : Word} (h : cmdReserved v = 0#28) : v.toNat < 16 := by
  have := congrArg BitVec.toNat h
  simp [cmdReserved, BitVec.extractLsb'_toNat] at this
  omega

end Sys2Proof
end

