-- ==== Sys2Proof/Laws/State.lean ====
section
/-! SUPPORT. The small lemmas of State's named updates: one per field per update, so that no later proof unfolds a record update. -/

namespace Sys2Proof.Machine.State

variable (s : State)

/-! ### setFreq -/

@[simp] theorem setFreq_freq (v : Word) : (s.setFreq v).freq = v := rfl
@[simp] theorem setFreq_refclk (v : Word) : (s.setFreq v).refclk = s.refclk := rfl
@[simp] theorem setFreq_cal (v : Word) : (s.setFreq v).cal = s.cal := rfl
@[simp] theorem setFreq_clkmul (v : Word) : (s.setFreq v).clkmul = s.clkmul := rfl
@[simp] theorem setFreq_wave (v : Word) : (s.setFreq v).wave = s.wave := rfl
@[simp] theorem setFreq_sel (v : Word) : (s.setFreq v).sel = s.sel := rfl
@[simp] theorem setFreq_word (v : Word) : (s.setFreq v).word = s.word := rfl
@[simp] theorem setFreq_cfgValid (v : Word) : (s.setFreq v).cfgValid = s.cfgValid := rfl
@[simp] theorem setFreq_cfgVariant (v : Word) : (s.setFreq v).cfgVariant = s.cfgVariant := rfl
@[simp] theorem setFreq_cfgRefclk (v : Word) : (s.setFreq v).cfgRefclk = s.cfgRefclk := rfl
@[simp] theorem setFreq_enc (v : Word) : (s.setFreq v).enc = s.enc := rfl
@[simp] theorem setFreq_err (v : Word) : (s.setFreq v).err = s.err := rfl
@[simp] theorem setFreq_queue (v : Word) : (s.setFreq v).queue = s.queue := rfl
@[simp] theorem setFreq_lineData (v : Word) : (s.setFreq v).lineData = s.lineData := rfl
@[simp] theorem setFreq_lineClk (v : Word) : (s.setFreq v).lineClk = s.lineClk := rfl
@[simp] theorem setFreq_lineLoad (v : Word) : (s.setFreq v).lineLoad = s.lineLoad := rfl
@[simp] theorem setFreq_trace (v : Word) : (s.setFreq v).trace = s.trace := rfl
@[simp] theorem setFreq_program (v : Word) : (s.setFreq v).program = s.program := rfl
@[simp] theorem setFreq_turns (v : Word) : (s.setFreq v).turns = s.turns := rfl
@[simp] theorem setFreq_results (v : Word) : (s.setFreq v).results = s.results := rfl

/-! ### setRefclk -/

@[simp] theorem setRefclk_freq (v : Word) : (s.setRefclk v).freq = s.freq := rfl
@[simp] theorem setRefclk_refclk (v : Word) : (s.setRefclk v).refclk = v := rfl
@[simp] theorem setRefclk_cal (v : Word) : (s.setRefclk v).cal = s.cal := rfl
@[simp] theorem setRefclk_clkmul (v : Word) : (s.setRefclk v).clkmul = s.clkmul := rfl
@[simp] theorem setRefclk_wave (v : Word) : (s.setRefclk v).wave = s.wave := rfl
@[simp] theorem setRefclk_sel (v : Word) : (s.setRefclk v).sel = s.sel := rfl
@[simp] theorem setRefclk_word (v : Word) : (s.setRefclk v).word = s.word := rfl
@[simp] theorem setRefclk_cfgValid (v : Word) : (s.setRefclk v).cfgValid = s.cfgValid := rfl
@[simp] theorem setRefclk_cfgVariant (v : Word) : (s.setRefclk v).cfgVariant = s.cfgVariant := rfl
@[simp] theorem setRefclk_cfgRefclk (v : Word) : (s.setRefclk v).cfgRefclk = s.cfgRefclk := rfl
@[simp] theorem setRefclk_enc (v : Word) : (s.setRefclk v).enc = s.enc := rfl
@[simp] theorem setRefclk_err (v : Word) : (s.setRefclk v).err = s.err := rfl
@[simp] theorem setRefclk_queue (v : Word) : (s.setRefclk v).queue = s.queue := rfl
@[simp] theorem setRefclk_lineData (v : Word) : (s.setRefclk v).lineData = s.lineData := rfl
@[simp] theorem setRefclk_lineClk (v : Word) : (s.setRefclk v).lineClk = s.lineClk := rfl
@[simp] theorem setRefclk_lineLoad (v : Word) : (s.setRefclk v).lineLoad = s.lineLoad := rfl
@[simp] theorem setRefclk_trace (v : Word) : (s.setRefclk v).trace = s.trace := rfl
@[simp] theorem setRefclk_program (v : Word) : (s.setRefclk v).program = s.program := rfl
@[simp] theorem setRefclk_turns (v : Word) : (s.setRefclk v).turns = s.turns := rfl
@[simp] theorem setRefclk_results (v : Word) : (s.setRefclk v).results = s.results := rfl

/-! ### setCal -/

@[simp] theorem setCal_freq (v : Word) : (s.setCal v).freq = s.freq := rfl
@[simp] theorem setCal_refclk (v : Word) : (s.setCal v).refclk = s.refclk := rfl
@[simp] theorem setCal_cal (v : Word) : (s.setCal v).cal = v := rfl
@[simp] theorem setCal_clkmul (v : Word) : (s.setCal v).clkmul = s.clkmul := rfl
@[simp] theorem setCal_wave (v : Word) : (s.setCal v).wave = s.wave := rfl
@[simp] theorem setCal_sel (v : Word) : (s.setCal v).sel = s.sel := rfl
@[simp] theorem setCal_word (v : Word) : (s.setCal v).word = s.word := rfl
@[simp] theorem setCal_cfgValid (v : Word) : (s.setCal v).cfgValid = s.cfgValid := rfl
@[simp] theorem setCal_cfgVariant (v : Word) : (s.setCal v).cfgVariant = s.cfgVariant := rfl
@[simp] theorem setCal_cfgRefclk (v : Word) : (s.setCal v).cfgRefclk = s.cfgRefclk := rfl
@[simp] theorem setCal_enc (v : Word) : (s.setCal v).enc = s.enc := rfl
@[simp] theorem setCal_err (v : Word) : (s.setCal v).err = s.err := rfl
@[simp] theorem setCal_queue (v : Word) : (s.setCal v).queue = s.queue := rfl
@[simp] theorem setCal_lineData (v : Word) : (s.setCal v).lineData = s.lineData := rfl
@[simp] theorem setCal_lineClk (v : Word) : (s.setCal v).lineClk = s.lineClk := rfl
@[simp] theorem setCal_lineLoad (v : Word) : (s.setCal v).lineLoad = s.lineLoad := rfl
@[simp] theorem setCal_trace (v : Word) : (s.setCal v).trace = s.trace := rfl
@[simp] theorem setCal_program (v : Word) : (s.setCal v).program = s.program := rfl
@[simp] theorem setCal_turns (v : Word) : (s.setCal v).turns = s.turns := rfl
@[simp] theorem setCal_results (v : Word) : (s.setCal v).results = s.results := rfl

/-! ### setOptions -/

@[simp] theorem setOptions_freq (v : Word) : (s.setOptions v).freq = s.freq := rfl
@[simp] theorem setOptions_refclk (v : Word) : (s.setOptions v).refclk = s.refclk := rfl
@[simp] theorem setOptions_cal (v : Word) : (s.setOptions v).cal = s.cal := rfl
@[simp] theorem setOptions_clkmul (v : Word) : (s.setOptions v).clkmul = clkmulField v := rfl
@[simp] theorem setOptions_wave (v : Word) : (s.setOptions v).wave = waveField v := rfl
@[simp] theorem setOptions_sel (v : Word) : (s.setOptions v).sel = s.sel := rfl
@[simp] theorem setOptions_word (v : Word) : (s.setOptions v).word = s.word := rfl
@[simp] theorem setOptions_cfgValid (v : Word) : (s.setOptions v).cfgValid = s.cfgValid := rfl
@[simp] theorem setOptions_cfgVariant (v : Word) : (s.setOptions v).cfgVariant = s.cfgVariant := rfl
@[simp] theorem setOptions_cfgRefclk (v : Word) : (s.setOptions v).cfgRefclk = s.cfgRefclk := rfl
@[simp] theorem setOptions_enc (v : Word) : (s.setOptions v).enc = s.enc := rfl
@[simp] theorem setOptions_err (v : Word) : (s.setOptions v).err = s.err := rfl
@[simp] theorem setOptions_queue (v : Word) : (s.setOptions v).queue = s.queue := rfl
@[simp] theorem setOptions_lineData (v : Word) : (s.setOptions v).lineData = s.lineData := rfl
@[simp] theorem setOptions_lineClk (v : Word) : (s.setOptions v).lineClk = s.lineClk := rfl
@[simp] theorem setOptions_lineLoad (v : Word) : (s.setOptions v).lineLoad = s.lineLoad := rfl
@[simp] theorem setOptions_trace (v : Word) : (s.setOptions v).trace = s.trace := rfl
@[simp] theorem setOptions_program (v : Word) : (s.setOptions v).program = s.program := rfl
@[simp] theorem setOptions_turns (v : Word) : (s.setOptions v).turns = s.turns := rfl
@[simp] theorem setOptions_results (v : Word) : (s.setOptions v).results = s.results := rfl

/-! ### setVariant -/

@[simp] theorem setVariant_freq (v : Word) : (s.setVariant v).freq = s.freq := rfl
@[simp] theorem setVariant_refclk (v : Word) : (s.setVariant v).refclk = s.refclk := rfl
@[simp] theorem setVariant_cal (v : Word) : (s.setVariant v).cal = s.cal := rfl
@[simp] theorem setVariant_clkmul (v : Word) : (s.setVariant v).clkmul = s.clkmul := rfl
@[simp] theorem setVariant_wave (v : Word) : (s.setVariant v).wave = s.wave := rfl
@[simp] theorem setVariant_sel (v : Word) : (s.setVariant v).sel = selField v := rfl
@[simp] theorem setVariant_word (v : Word) : (s.setVariant v).word = s.word := rfl
@[simp] theorem setVariant_cfgValid (v : Word) : (s.setVariant v).cfgValid = s.cfgValid := rfl
@[simp] theorem setVariant_cfgVariant (v : Word) : (s.setVariant v).cfgVariant = s.cfgVariant := rfl
@[simp] theorem setVariant_cfgRefclk (v : Word) : (s.setVariant v).cfgRefclk = s.cfgRefclk := rfl
@[simp] theorem setVariant_enc (v : Word) : (s.setVariant v).enc = s.enc := rfl
@[simp] theorem setVariant_err (v : Word) : (s.setVariant v).err = s.err := rfl
@[simp] theorem setVariant_queue (v : Word) : (s.setVariant v).queue = s.queue := rfl
@[simp] theorem setVariant_lineData (v : Word) : (s.setVariant v).lineData = s.lineData := rfl
@[simp] theorem setVariant_lineClk (v : Word) : (s.setVariant v).lineClk = s.lineClk := rfl
@[simp] theorem setVariant_lineLoad (v : Word) : (s.setVariant v).lineLoad = s.lineLoad := rfl
@[simp] theorem setVariant_trace (v : Word) : (s.setVariant v).trace = s.trace := rfl
@[simp] theorem setVariant_program (v : Word) : (s.setVariant v).program = s.program := rfl
@[simp] theorem setVariant_turns (v : Word) : (s.setVariant v).turns = s.turns := rfl
@[simp] theorem setVariant_results (v : Word) : (s.setVariant v).results = s.results := rfl

/-! ### setWord -/

@[simp] theorem setWord_freq (w : Word) : (s.setWord w).freq = s.freq := rfl
@[simp] theorem setWord_refclk (w : Word) : (s.setWord w).refclk = s.refclk := rfl
@[simp] theorem setWord_cal (w : Word) : (s.setWord w).cal = s.cal := rfl
@[simp] theorem setWord_clkmul (w : Word) : (s.setWord w).clkmul = s.clkmul := rfl
@[simp] theorem setWord_wave (w : Word) : (s.setWord w).wave = s.wave := rfl
@[simp] theorem setWord_sel (w : Word) : (s.setWord w).sel = s.sel := rfl
@[simp] theorem setWord_word (w : Word) : (s.setWord w).word = w := rfl
@[simp] theorem setWord_cfgValid (w : Word) : (s.setWord w).cfgValid = s.cfgValid := rfl
@[simp] theorem setWord_cfgVariant (w : Word) : (s.setWord w).cfgVariant = s.cfgVariant := rfl
@[simp] theorem setWord_cfgRefclk (w : Word) : (s.setWord w).cfgRefclk = s.cfgRefclk := rfl
@[simp] theorem setWord_enc (w : Word) : (s.setWord w).enc = s.enc := rfl
@[simp] theorem setWord_err (w : Word) : (s.setWord w).err = s.err := rfl
@[simp] theorem setWord_queue (w : Word) : (s.setWord w).queue = s.queue := rfl
@[simp] theorem setWord_lineData (w : Word) : (s.setWord w).lineData = s.lineData := rfl
@[simp] theorem setWord_lineClk (w : Word) : (s.setWord w).lineClk = s.lineClk := rfl
@[simp] theorem setWord_lineLoad (w : Word) : (s.setWord w).lineLoad = s.lineLoad := rfl
@[simp] theorem setWord_trace (w : Word) : (s.setWord w).trace = s.trace := rfl
@[simp] theorem setWord_program (w : Word) : (s.setWord w).program = s.program := rfl
@[simp] theorem setWord_turns (w : Word) : (s.setWord w).turns = s.turns := rfl
@[simp] theorem setWord_results (w : Word) : (s.setWord w).results = s.results := rfl

/-! ### setReady -/

@[simp] theorem setReady_freq : s.setReady.freq = s.freq := rfl
@[simp] theorem setReady_refclk : s.setReady.refclk = s.refclk := rfl
@[simp] theorem setReady_cal : s.setReady.cal = s.cal := rfl
@[simp] theorem setReady_clkmul : s.setReady.clkmul = s.clkmul := rfl
@[simp] theorem setReady_wave : s.setReady.wave = s.wave := rfl
@[simp] theorem setReady_sel : s.setReady.sel = s.sel := rfl
@[simp] theorem setReady_word : s.setReady.word = s.word := rfl
@[simp] theorem setReady_cfgValid : s.setReady.cfgValid = s.cfgValid := rfl
@[simp] theorem setReady_cfgVariant : s.setReady.cfgVariant = s.cfgVariant := rfl
@[simp] theorem setReady_cfgRefclk : s.setReady.cfgRefclk = s.cfgRefclk := rfl
@[simp] theorem setReady_enc : s.setReady.enc = .ready := rfl
@[simp] theorem setReady_err : s.setReady.err = s.err := rfl
@[simp] theorem setReady_queue : s.setReady.queue = s.queue := rfl
@[simp] theorem setReady_lineData : s.setReady.lineData = s.lineData := rfl
@[simp] theorem setReady_lineClk : s.setReady.lineClk = s.lineClk := rfl
@[simp] theorem setReady_lineLoad : s.setReady.lineLoad = s.lineLoad := rfl
@[simp] theorem setReady_trace : s.setReady.trace = s.trace := rfl
@[simp] theorem setReady_program : s.setReady.program = s.program := rfl
@[simp] theorem setReady_turns : s.setReady.turns = s.turns := rfl
@[simp] theorem setReady_results : s.setReady.results = s.results := rfl

/-! ### setErr -/

@[simp] theorem setErr_freq (e : ErrCode) : (s.setErr e).freq = s.freq := rfl
@[simp] theorem setErr_refclk (e : ErrCode) : (s.setErr e).refclk = s.refclk := rfl
@[simp] theorem setErr_cal (e : ErrCode) : (s.setErr e).cal = s.cal := rfl
@[simp] theorem setErr_clkmul (e : ErrCode) : (s.setErr e).clkmul = s.clkmul := rfl
@[simp] theorem setErr_wave (e : ErrCode) : (s.setErr e).wave = s.wave := rfl
@[simp] theorem setErr_sel (e : ErrCode) : (s.setErr e).sel = s.sel := rfl
@[simp] theorem setErr_word (e : ErrCode) : (s.setErr e).word = s.word := rfl
@[simp] theorem setErr_cfgValid (e : ErrCode) : (s.setErr e).cfgValid = s.cfgValid := rfl
@[simp] theorem setErr_cfgVariant (e : ErrCode) : (s.setErr e).cfgVariant = s.cfgVariant := rfl
@[simp] theorem setErr_cfgRefclk (e : ErrCode) : (s.setErr e).cfgRefclk = s.cfgRefclk := rfl
@[simp] theorem setErr_enc (e : ErrCode) : (s.setErr e).enc = s.enc := rfl
@[simp] theorem setErr_err (e : ErrCode) : (s.setErr e).err = e := rfl
@[simp] theorem setErr_queue (e : ErrCode) : (s.setErr e).queue = s.queue := rfl
@[simp] theorem setErr_lineData (e : ErrCode) : (s.setErr e).lineData = s.lineData := rfl
@[simp] theorem setErr_lineClk (e : ErrCode) : (s.setErr e).lineClk = s.lineClk := rfl
@[simp] theorem setErr_lineLoad (e : ErrCode) : (s.setErr e).lineLoad = s.lineLoad := rfl
@[simp] theorem setErr_trace (e : ErrCode) : (s.setErr e).trace = s.trace := rfl
@[simp] theorem setErr_program (e : ErrCode) : (s.setErr e).program = s.program := rfl
@[simp] theorem setErr_turns (e : ErrCode) : (s.setErr e).turns = s.turns := rfl
@[simp] theorem setErr_results (e : ErrCode) : (s.setErr e).results = s.results := rfl

/-! ### setQueue -/

@[simp] theorem setQueue_freq (q : List MicroStep) : (s.setQueue q).freq = s.freq := rfl
@[simp] theorem setQueue_refclk (q : List MicroStep) : (s.setQueue q).refclk = s.refclk := rfl
@[simp] theorem setQueue_cal (q : List MicroStep) : (s.setQueue q).cal = s.cal := rfl
@[simp] theorem setQueue_clkmul (q : List MicroStep) : (s.setQueue q).clkmul = s.clkmul := rfl
@[simp] theorem setQueue_wave (q : List MicroStep) : (s.setQueue q).wave = s.wave := rfl
@[simp] theorem setQueue_sel (q : List MicroStep) : (s.setQueue q).sel = s.sel := rfl
@[simp] theorem setQueue_word (q : List MicroStep) : (s.setQueue q).word = s.word := rfl
@[simp] theorem setQueue_cfgValid (q : List MicroStep) : (s.setQueue q).cfgValid = s.cfgValid := rfl
@[simp] theorem setQueue_cfgVariant (q : List MicroStep) : (s.setQueue q).cfgVariant = s.cfgVariant := rfl
@[simp] theorem setQueue_cfgRefclk (q : List MicroStep) : (s.setQueue q).cfgRefclk = s.cfgRefclk := rfl
@[simp] theorem setQueue_enc (q : List MicroStep) : (s.setQueue q).enc = s.enc := rfl
@[simp] theorem setQueue_err (q : List MicroStep) : (s.setQueue q).err = s.err := rfl
@[simp] theorem setQueue_queue (q : List MicroStep) : (s.setQueue q).queue = q := rfl
@[simp] theorem setQueue_lineData (q : List MicroStep) : (s.setQueue q).lineData = s.lineData := rfl
@[simp] theorem setQueue_lineClk (q : List MicroStep) : (s.setQueue q).lineClk = s.lineClk := rfl
@[simp] theorem setQueue_lineLoad (q : List MicroStep) : (s.setQueue q).lineLoad = s.lineLoad := rfl
@[simp] theorem setQueue_trace (q : List MicroStep) : (s.setQueue q).trace = s.trace := rfl
@[simp] theorem setQueue_program (q : List MicroStep) : (s.setQueue q).program = s.program := rfl
@[simp] theorem setQueue_turns (q : List MicroStep) : (s.setQueue q).turns = s.turns := rfl
@[simp] theorem setQueue_results (q : List MicroStep) : (s.setQueue q).results = s.results := rfl

/-! ### emit -/

@[simp] theorem emit_freq (e : BusEvent) : (s.emit e).freq = s.freq := rfl
@[simp] theorem emit_refclk (e : BusEvent) : (s.emit e).refclk = s.refclk := rfl
@[simp] theorem emit_cal (e : BusEvent) : (s.emit e).cal = s.cal := rfl
@[simp] theorem emit_clkmul (e : BusEvent) : (s.emit e).clkmul = s.clkmul := rfl
@[simp] theorem emit_wave (e : BusEvent) : (s.emit e).wave = s.wave := rfl
@[simp] theorem emit_sel (e : BusEvent) : (s.emit e).sel = s.sel := rfl
@[simp] theorem emit_word (e : BusEvent) : (s.emit e).word = s.word := rfl
@[simp] theorem emit_cfgValid (e : BusEvent) : (s.emit e).cfgValid = s.cfgValid := rfl
@[simp] theorem emit_cfgVariant (e : BusEvent) : (s.emit e).cfgVariant = s.cfgVariant := rfl
@[simp] theorem emit_cfgRefclk (e : BusEvent) : (s.emit e).cfgRefclk = s.cfgRefclk := rfl
@[simp] theorem emit_enc (e : BusEvent) : (s.emit e).enc = s.enc := rfl
@[simp] theorem emit_err (e : BusEvent) : (s.emit e).err = s.err := rfl
@[simp] theorem emit_queue (e : BusEvent) : (s.emit e).queue = s.queue := rfl
@[simp] theorem emit_lineData (e : BusEvent) : (s.emit e).lineData = s.lineData := rfl
@[simp] theorem emit_lineClk (e : BusEvent) : (s.emit e).lineClk = s.lineClk := rfl
@[simp] theorem emit_lineLoad (e : BusEvent) : (s.emit e).lineLoad = s.lineLoad := rfl
@[simp] theorem emit_trace (e : BusEvent) : (s.emit e).trace = s.trace ++ [e] := rfl
@[simp] theorem emit_program (e : BusEvent) : (s.emit e).program = s.program := rfl
@[simp] theorem emit_turns (e : BusEvent) : (s.emit e).turns = s.turns := rfl
@[simp] theorem emit_results (e : BusEvent) : (s.emit e).results = s.results := rfl

/-! ### driveData -/

@[simp] theorem driveData_freq (b : Bool) : (s.driveData b).freq = s.freq := rfl
@[simp] theorem driveData_refclk (b : Bool) : (s.driveData b).refclk = s.refclk := rfl
@[simp] theorem driveData_cal (b : Bool) : (s.driveData b).cal = s.cal := rfl
@[simp] theorem driveData_clkmul (b : Bool) : (s.driveData b).clkmul = s.clkmul := rfl
@[simp] theorem driveData_wave (b : Bool) : (s.driveData b).wave = s.wave := rfl
@[simp] theorem driveData_sel (b : Bool) : (s.driveData b).sel = s.sel := rfl
@[simp] theorem driveData_word (b : Bool) : (s.driveData b).word = s.word := rfl
@[simp] theorem driveData_cfgValid (b : Bool) : (s.driveData b).cfgValid = s.cfgValid := rfl
@[simp] theorem driveData_cfgVariant (b : Bool) : (s.driveData b).cfgVariant = s.cfgVariant := rfl
@[simp] theorem driveData_cfgRefclk (b : Bool) : (s.driveData b).cfgRefclk = s.cfgRefclk := rfl
@[simp] theorem driveData_enc (b : Bool) : (s.driveData b).enc = s.enc := rfl
@[simp] theorem driveData_err (b : Bool) : (s.driveData b).err = s.err := rfl
@[simp] theorem driveData_queue (b : Bool) : (s.driveData b).queue = s.queue := rfl
@[simp] theorem driveData_lineData (b : Bool) : (s.driveData b).lineData = b := rfl
@[simp] theorem driveData_lineClk (b : Bool) : (s.driveData b).lineClk = s.lineClk := rfl
@[simp] theorem driveData_lineLoad (b : Bool) : (s.driveData b).lineLoad = s.lineLoad := rfl
@[simp] theorem driveData_trace (b : Bool) : (s.driveData b).trace = s.trace ++ [.data b] := rfl
@[simp] theorem driveData_program (b : Bool) : (s.driveData b).program = s.program := rfl
@[simp] theorem driveData_turns (b : Bool) : (s.driveData b).turns = s.turns := rfl
@[simp] theorem driveData_results (b : Bool) : (s.driveData b).results = s.results := rfl

/-! ### driveClk -/

@[simp] theorem driveClk_freq (b : Bool) : (s.driveClk b).freq = s.freq := rfl
@[simp] theorem driveClk_refclk (b : Bool) : (s.driveClk b).refclk = s.refclk := rfl
@[simp] theorem driveClk_cal (b : Bool) : (s.driveClk b).cal = s.cal := rfl
@[simp] theorem driveClk_clkmul (b : Bool) : (s.driveClk b).clkmul = s.clkmul := rfl
@[simp] theorem driveClk_wave (b : Bool) : (s.driveClk b).wave = s.wave := rfl
@[simp] theorem driveClk_sel (b : Bool) : (s.driveClk b).sel = s.sel := rfl
@[simp] theorem driveClk_word (b : Bool) : (s.driveClk b).word = s.word := rfl
@[simp] theorem driveClk_cfgValid (b : Bool) : (s.driveClk b).cfgValid = s.cfgValid := rfl
@[simp] theorem driveClk_cfgVariant (b : Bool) : (s.driveClk b).cfgVariant = s.cfgVariant := rfl
@[simp] theorem driveClk_cfgRefclk (b : Bool) : (s.driveClk b).cfgRefclk = s.cfgRefclk := rfl
@[simp] theorem driveClk_enc (b : Bool) : (s.driveClk b).enc = s.enc := rfl
@[simp] theorem driveClk_err (b : Bool) : (s.driveClk b).err = s.err := rfl
@[simp] theorem driveClk_queue (b : Bool) : (s.driveClk b).queue = s.queue := rfl
@[simp] theorem driveClk_lineData (b : Bool) : (s.driveClk b).lineData = s.lineData := rfl
@[simp] theorem driveClk_lineClk (b : Bool) : (s.driveClk b).lineClk = b := rfl
@[simp] theorem driveClk_lineLoad (b : Bool) : (s.driveClk b).lineLoad = s.lineLoad := rfl
@[simp] theorem driveClk_trace (b : Bool) : (s.driveClk b).trace = s.trace ++ [.clk b] := rfl
@[simp] theorem driveClk_program (b : Bool) : (s.driveClk b).program = s.program := rfl
@[simp] theorem driveClk_turns (b : Bool) : (s.driveClk b).turns = s.turns := rfl
@[simp] theorem driveClk_results (b : Bool) : (s.driveClk b).results = s.results := rfl

/-! ### driveLoad -/

@[simp] theorem driveLoad_freq (b : Bool) : (s.driveLoad b).freq = s.freq := rfl
@[simp] theorem driveLoad_refclk (b : Bool) : (s.driveLoad b).refclk = s.refclk := rfl
@[simp] theorem driveLoad_cal (b : Bool) : (s.driveLoad b).cal = s.cal := rfl
@[simp] theorem driveLoad_clkmul (b : Bool) : (s.driveLoad b).clkmul = s.clkmul := rfl
@[simp] theorem driveLoad_wave (b : Bool) : (s.driveLoad b).wave = s.wave := rfl
@[simp] theorem driveLoad_sel (b : Bool) : (s.driveLoad b).sel = s.sel := rfl
@[simp] theorem driveLoad_word (b : Bool) : (s.driveLoad b).word = s.word := rfl
@[simp] theorem driveLoad_cfgValid (b : Bool) : (s.driveLoad b).cfgValid = s.cfgValid := rfl
@[simp] theorem driveLoad_cfgVariant (b : Bool) : (s.driveLoad b).cfgVariant = s.cfgVariant := rfl
@[simp] theorem driveLoad_cfgRefclk (b : Bool) : (s.driveLoad b).cfgRefclk = s.cfgRefclk := rfl
@[simp] theorem driveLoad_enc (b : Bool) : (s.driveLoad b).enc = s.enc := rfl
@[simp] theorem driveLoad_err (b : Bool) : (s.driveLoad b).err = s.err := rfl
@[simp] theorem driveLoad_queue (b : Bool) : (s.driveLoad b).queue = s.queue := rfl
@[simp] theorem driveLoad_lineData (b : Bool) : (s.driveLoad b).lineData = s.lineData := rfl
@[simp] theorem driveLoad_lineClk (b : Bool) : (s.driveLoad b).lineClk = s.lineClk := rfl
@[simp] theorem driveLoad_lineLoad (b : Bool) : (s.driveLoad b).lineLoad = b := rfl
@[simp] theorem driveLoad_trace (b : Bool) : (s.driveLoad b).trace = s.trace ++ [.load b] := rfl
@[simp] theorem driveLoad_program (b : Bool) : (s.driveLoad b).program = s.program := rfl
@[simp] theorem driveLoad_turns (b : Bool) : (s.driveLoad b).turns = s.turns := rfl
@[simp] theorem driveLoad_results (b : Bool) : (s.driveLoad b).results = s.results := rfl

/-! ### answer -/

@[simp] theorem answer_freq (v : Word) : (s.answer v).freq = s.freq := rfl
@[simp] theorem answer_refclk (v : Word) : (s.answer v).refclk = s.refclk := rfl
@[simp] theorem answer_cal (v : Word) : (s.answer v).cal = s.cal := rfl
@[simp] theorem answer_clkmul (v : Word) : (s.answer v).clkmul = s.clkmul := rfl
@[simp] theorem answer_wave (v : Word) : (s.answer v).wave = s.wave := rfl
@[simp] theorem answer_sel (v : Word) : (s.answer v).sel = s.sel := rfl
@[simp] theorem answer_word (v : Word) : (s.answer v).word = s.word := rfl
@[simp] theorem answer_cfgValid (v : Word) : (s.answer v).cfgValid = s.cfgValid := rfl
@[simp] theorem answer_cfgVariant (v : Word) : (s.answer v).cfgVariant = s.cfgVariant := rfl
@[simp] theorem answer_cfgRefclk (v : Word) : (s.answer v).cfgRefclk = s.cfgRefclk := rfl
@[simp] theorem answer_enc (v : Word) : (s.answer v).enc = s.enc := rfl
@[simp] theorem answer_err (v : Word) : (s.answer v).err = s.err := rfl
@[simp] theorem answer_queue (v : Word) : (s.answer v).queue = s.queue := rfl
@[simp] theorem answer_lineData (v : Word) : (s.answer v).lineData = s.lineData := rfl
@[simp] theorem answer_lineClk (v : Word) : (s.answer v).lineClk = s.lineClk := rfl
@[simp] theorem answer_lineLoad (v : Word) : (s.answer v).lineLoad = s.lineLoad := rfl
@[simp] theorem answer_trace (v : Word) : (s.answer v).trace = s.trace := rfl
@[simp] theorem answer_program (v : Word) : (s.answer v).program = s.program := rfl
@[simp] theorem answer_turns (v : Word) : (s.answer v).turns = s.turns := rfl
@[simp] theorem answer_results (v : Word) : (s.answer v).results = s.results ++ [v] := rfl

/-! ### setProgram -/

@[simp] theorem setProgram_freq (p : List HostOp) : (s.setProgram p).freq = s.freq := rfl
@[simp] theorem setProgram_refclk (p : List HostOp) : (s.setProgram p).refclk = s.refclk := rfl
@[simp] theorem setProgram_cal (p : List HostOp) : (s.setProgram p).cal = s.cal := rfl
@[simp] theorem setProgram_clkmul (p : List HostOp) : (s.setProgram p).clkmul = s.clkmul := rfl
@[simp] theorem setProgram_wave (p : List HostOp) : (s.setProgram p).wave = s.wave := rfl
@[simp] theorem setProgram_sel (p : List HostOp) : (s.setProgram p).sel = s.sel := rfl
@[simp] theorem setProgram_word (p : List HostOp) : (s.setProgram p).word = s.word := rfl
@[simp] theorem setProgram_cfgValid (p : List HostOp) : (s.setProgram p).cfgValid = s.cfgValid := rfl
@[simp] theorem setProgram_cfgVariant (p : List HostOp) : (s.setProgram p).cfgVariant = s.cfgVariant := rfl
@[simp] theorem setProgram_cfgRefclk (p : List HostOp) : (s.setProgram p).cfgRefclk = s.cfgRefclk := rfl
@[simp] theorem setProgram_enc (p : List HostOp) : (s.setProgram p).enc = s.enc := rfl
@[simp] theorem setProgram_err (p : List HostOp) : (s.setProgram p).err = s.err := rfl
@[simp] theorem setProgram_queue (p : List HostOp) : (s.setProgram p).queue = s.queue := rfl
@[simp] theorem setProgram_lineData (p : List HostOp) : (s.setProgram p).lineData = s.lineData := rfl
@[simp] theorem setProgram_lineClk (p : List HostOp) : (s.setProgram p).lineClk = s.lineClk := rfl
@[simp] theorem setProgram_lineLoad (p : List HostOp) : (s.setProgram p).lineLoad = s.lineLoad := rfl
@[simp] theorem setProgram_trace (p : List HostOp) : (s.setProgram p).trace = s.trace := rfl
@[simp] theorem setProgram_program (p : List HostOp) : (s.setProgram p).program = p := rfl
@[simp] theorem setProgram_turns (p : List HostOp) : (s.setProgram p).turns = s.turns := rfl
@[simp] theorem setProgram_results (p : List HostOp) : (s.setProgram p).results = s.results := rfl

/-! ### setTurns -/

@[simp] theorem setTurns_freq (ts : List Turn) : (s.setTurns ts).freq = s.freq := rfl
@[simp] theorem setTurns_refclk (ts : List Turn) : (s.setTurns ts).refclk = s.refclk := rfl
@[simp] theorem setTurns_cal (ts : List Turn) : (s.setTurns ts).cal = s.cal := rfl
@[simp] theorem setTurns_clkmul (ts : List Turn) : (s.setTurns ts).clkmul = s.clkmul := rfl
@[simp] theorem setTurns_wave (ts : List Turn) : (s.setTurns ts).wave = s.wave := rfl
@[simp] theorem setTurns_sel (ts : List Turn) : (s.setTurns ts).sel = s.sel := rfl
@[simp] theorem setTurns_word (ts : List Turn) : (s.setTurns ts).word = s.word := rfl
@[simp] theorem setTurns_cfgValid (ts : List Turn) : (s.setTurns ts).cfgValid = s.cfgValid := rfl
@[simp] theorem setTurns_cfgVariant (ts : List Turn) : (s.setTurns ts).cfgVariant = s.cfgVariant := rfl
@[simp] theorem setTurns_cfgRefclk (ts : List Turn) : (s.setTurns ts).cfgRefclk = s.cfgRefclk := rfl
@[simp] theorem setTurns_enc (ts : List Turn) : (s.setTurns ts).enc = s.enc := rfl
@[simp] theorem setTurns_err (ts : List Turn) : (s.setTurns ts).err = s.err := rfl
@[simp] theorem setTurns_queue (ts : List Turn) : (s.setTurns ts).queue = s.queue := rfl
@[simp] theorem setTurns_lineData (ts : List Turn) : (s.setTurns ts).lineData = s.lineData := rfl
@[simp] theorem setTurns_lineClk (ts : List Turn) : (s.setTurns ts).lineClk = s.lineClk := rfl
@[simp] theorem setTurns_lineLoad (ts : List Turn) : (s.setTurns ts).lineLoad = s.lineLoad := rfl
@[simp] theorem setTurns_trace (ts : List Turn) : (s.setTurns ts).trace = s.trace := rfl
@[simp] theorem setTurns_program (ts : List Turn) : (s.setTurns ts).program = s.program := rfl
@[simp] theorem setTurns_turns (ts : List Turn) : (s.setTurns ts).turns = ts := rfl
@[simp] theorem setTurns_results (ts : List Turn) : (s.setTurns ts).results = s.results := rfl

/-! ### reject -/

@[simp] theorem reject_freq (e : ErrCode) : (s.reject e).freq = s.freq := rfl
@[simp] theorem reject_refclk (e : ErrCode) : (s.reject e).refclk = s.refclk := rfl
@[simp] theorem reject_cal (e : ErrCode) : (s.reject e).cal = s.cal := rfl
@[simp] theorem reject_clkmul (e : ErrCode) : (s.reject e).clkmul = s.clkmul := rfl
@[simp] theorem reject_wave (e : ErrCode) : (s.reject e).wave = s.wave := rfl
@[simp] theorem reject_sel (e : ErrCode) : (s.reject e).sel = s.sel := rfl
@[simp] theorem reject_word (e : ErrCode) : (s.reject e).word = s.word := rfl
@[simp] theorem reject_cfgValid (e : ErrCode) : (s.reject e).cfgValid = s.cfgValid := rfl
@[simp] theorem reject_cfgVariant (e : ErrCode) : (s.reject e).cfgVariant = s.cfgVariant := rfl
@[simp] theorem reject_cfgRefclk (e : ErrCode) : (s.reject e).cfgRefclk = s.cfgRefclk := rfl
@[simp] theorem reject_enc (e : ErrCode) : (s.reject e).enc = s.enc := rfl
@[simp] theorem reject_err (e : ErrCode) : (s.reject e).err = e := rfl
@[simp] theorem reject_queue (e : ErrCode) : (s.reject e).queue = s.queue := rfl
@[simp] theorem reject_lineData (e : ErrCode) : (s.reject e).lineData = s.lineData := rfl
@[simp] theorem reject_lineClk (e : ErrCode) : (s.reject e).lineClk = s.lineClk := rfl
@[simp] theorem reject_lineLoad (e : ErrCode) : (s.reject e).lineLoad = s.lineLoad := rfl
@[simp] theorem reject_trace (e : ErrCode) : (s.reject e).trace = s.trace := rfl
@[simp] theorem reject_program (e : ErrCode) : (s.reject e).program = s.program := rfl
@[simp] theorem reject_turns (e : ErrCode) : (s.reject e).turns = s.turns := rfl
@[simp] theorem reject_results (e : ErrCode) : (s.reject e).results = s.results := rfl

/-! ### latchConfig: only the configuration latch can change -/

@[simp] theorem latchConfig_freq : s.latchConfig.freq = s.freq := by unfold latchConfig; split <;> rfl
@[simp] theorem latchConfig_refclk : s.latchConfig.refclk = s.refclk := by unfold latchConfig; split <;> rfl
@[simp] theorem latchConfig_cal : s.latchConfig.cal = s.cal := by unfold latchConfig; split <;> rfl
@[simp] theorem latchConfig_clkmul : s.latchConfig.clkmul = s.clkmul := by unfold latchConfig; split <;> rfl
@[simp] theorem latchConfig_wave : s.latchConfig.wave = s.wave := by unfold latchConfig; split <;> rfl
@[simp] theorem latchConfig_sel : s.latchConfig.sel = s.sel := by unfold latchConfig; split <;> rfl
@[simp] theorem latchConfig_word : s.latchConfig.word = s.word := by unfold latchConfig; split <;> rfl
@[simp] theorem latchConfig_enc : s.latchConfig.enc = s.enc := by unfold latchConfig; split <;> rfl
@[simp] theorem latchConfig_err : s.latchConfig.err = s.err := by unfold latchConfig; split <;> rfl
@[simp] theorem latchConfig_queue : s.latchConfig.queue = s.queue := by unfold latchConfig; split <;> rfl
@[simp] theorem latchConfig_lineData : s.latchConfig.lineData = s.lineData := by unfold latchConfig; split <;> rfl
@[simp] theorem latchConfig_lineClk : s.latchConfig.lineClk = s.lineClk := by unfold latchConfig; split <;> rfl
@[simp] theorem latchConfig_lineLoad : s.latchConfig.lineLoad = s.lineLoad := by unfold latchConfig; split <;> rfl
@[simp] theorem latchConfig_trace : s.latchConfig.trace = s.trace := by unfold latchConfig; split <;> rfl
@[simp] theorem latchConfig_program : s.latchConfig.program = s.program := by unfold latchConfig; split <;> rfl
@[simp] theorem latchConfig_turns : s.latchConfig.turns = s.turns := by unfold latchConfig; split <;> rfl
@[simp] theorem latchConfig_results : s.latchConfig.results = s.results := by unfold latchConfig; split <;> rfl

/-! ### resetInput -/

@[simp] theorem resetInput_freq : s.resetInput.freq = 0#32 := rfl
@[simp] theorem resetInput_refclk : s.resetInput.refclk = 0#32 := rfl
@[simp] theorem resetInput_cal : s.resetInput.cal = 0#32 := rfl
@[simp] theorem resetInput_clkmul : s.resetInput.clkmul = false := rfl
@[simp] theorem resetInput_wave : s.resetInput.wave = false := rfl
@[simp] theorem resetInput_sel : s.resetInput.sel = 3#2 := rfl
@[simp] theorem resetInput_word : s.resetInput.word = 0#32 := rfl
@[simp] theorem resetInput_cfgValid : s.resetInput.cfgValid = false := rfl
@[simp] theorem resetInput_cfgVariant : s.resetInput.cfgVariant = .v28 := rfl
@[simp] theorem resetInput_cfgRefclk : s.resetInput.cfgRefclk = 0#32 := rfl
@[simp] theorem resetInput_enc : s.resetInput.enc = .uninit := rfl
@[simp] theorem resetInput_err : s.resetInput.err = .none := rfl
@[simp] theorem resetInput_queue : s.resetInput.queue = [] := rfl
@[simp] theorem resetInput_lineData : s.resetInput.lineData = false := rfl
@[simp] theorem resetInput_lineClk : s.resetInput.lineClk = false := rfl
@[simp] theorem resetInput_lineLoad : s.resetInput.lineLoad = false := rfl
@[simp] theorem resetInput_trace : s.resetInput.trace = s.trace ++ [.reset] := rfl
@[simp] theorem resetInput_program : s.resetInput.program = s.program := rfl
@[simp] theorem resetInput_turns : s.resetInput.turns = s.turns := rfl
@[simp] theorem resetInput_results : s.resetInput.results = s.results := rfl

/-! ### hostRead: only the host's answers change -/

@[simp] theorem hostRead_freq (r : Reg) : (s.hostRead r).freq = s.freq := rfl
@[simp] theorem hostRead_refclk (r : Reg) : (s.hostRead r).refclk = s.refclk := rfl
@[simp] theorem hostRead_cal (r : Reg) : (s.hostRead r).cal = s.cal := rfl
@[simp] theorem hostRead_clkmul (r : Reg) : (s.hostRead r).clkmul = s.clkmul := rfl
@[simp] theorem hostRead_wave (r : Reg) : (s.hostRead r).wave = s.wave := rfl
@[simp] theorem hostRead_sel (r : Reg) : (s.hostRead r).sel = s.sel := rfl
@[simp] theorem hostRead_word (r : Reg) : (s.hostRead r).word = s.word := rfl
@[simp] theorem hostRead_cfgValid (r : Reg) : (s.hostRead r).cfgValid = s.cfgValid := rfl
@[simp] theorem hostRead_cfgVariant (r : Reg) : (s.hostRead r).cfgVariant = s.cfgVariant := rfl
@[simp] theorem hostRead_cfgRefclk (r : Reg) : (s.hostRead r).cfgRefclk = s.cfgRefclk := rfl
@[simp] theorem hostRead_enc (r : Reg) : (s.hostRead r).enc = s.enc := rfl
@[simp] theorem hostRead_err (r : Reg) : (s.hostRead r).err = s.err := rfl
@[simp] theorem hostRead_queue (r : Reg) : (s.hostRead r).queue = s.queue := rfl
@[simp] theorem hostRead_lineData (r : Reg) : (s.hostRead r).lineData = s.lineData := rfl
@[simp] theorem hostRead_lineClk (r : Reg) : (s.hostRead r).lineClk = s.lineClk := rfl
@[simp] theorem hostRead_lineLoad (r : Reg) : (s.hostRead r).lineLoad = s.lineLoad := rfl
@[simp] theorem hostRead_trace (r : Reg) : (s.hostRead r).trace = s.trace := rfl
@[simp] theorem hostRead_program (r : Reg) : (s.hostRead r).program = s.program := rfl
@[simp] theorem hostRead_turns (r : Reg) : (s.hostRead r).turns = s.turns := rfl
@[simp] theorem hostRead_results (r : Reg) : (s.hostRead r).results = s.results ++ [s.readReg r] := rfl

end Sys2Proof.Machine.State
end

