-- ==== Sys2Proof/Laws/Ops.lean ====
section
/-! SUPPORT. One lemma per shared operation that says everything it can do; later proofs cite these instead of unfolding. -/

namespace Sys2Proof.Machine

variable (s : State)

/-! ### STATUS and BUSY -/

theorem busy_eq_false_iff : s.busy = false ↔ s.queue = [] := by
  simp [State.busy]

theorem busy_eq_true_iff : s.busy = true ↔ s.queue ≠ [] := by
  simp [State.busy]

/-- The words of the six commands have no reserved bit set and a legal opcode. -/
theorem command_word_legal (c : Command) : reservedEncoding c.word = false ∧ illegalOp c.word = false := by
  cases c <;> decide

/-! ### Acceptance, rejection and commands -/

/-- Everything a CMD write can do (R240, R261): a rejection that writes only `err`, or the accepted effect with `err` cleared. -/
theorem command_cases (v : Word) (effect : State → State) :
    (∃ e, s.acceptCheck v = some e ∧ s.command v effect = s.reject e) ∨
    (s.acceptCheck v = none ∧ s.command v effect = (effect s).setErr .none) := by
  unfold State.command
  cases h : s.acceptCheck v with
  | none => exact .inr ⟨rfl, rfl⟩
  | some e => exact .inl ⟨e, rfl, rfl⟩

theorem command_accepted {v : Word} {effect : State → State} (h : s.acceptCheck v = none) :
    s.command v effect = (effect s).setErr .none := by
  simp [State.command, h]

theorem command_rejected {v : Word} {effect : State → State} {e : ErrCode} (h : s.acceptCheck v = some e) :
    s.command v effect = s.reject e := by
  simp [State.command, h]

/-- The first check of R262: while a program is queued, every command is rejected with E_BUSY. -/
theorem acceptCheck_busy (v : Word) (h : s.queue ≠ []) : s.acceptCheck v = some .busy := by
  simp [State.acceptCheck, (busy_eq_true_iff s).2 h]

theorem acceptCheck_reserved {v : Word} (h : s.queue = []) (hv : reservedEncoding v = true) :
    s.acceptCheck v = some .reserved := by
  simp [State.acceptCheck, (busy_eq_false_iff s).2 h, hv]

theorem acceptCheck_illegal {v : Word} (h : s.queue = []) (hr : reservedEncoding v = false) (hv : illegalOp v = true) :
    s.acceptCheck v = some .illegal := by
  simp [State.acceptCheck, (busy_eq_false_iff s).2 h, hr, hv]

theorem acceptCheck_nop (h : s.queue = []) : s.acceptCheck Command.nop.word = none := by
  have hl := command_word_legal .nop
  simp [State.acceptCheck, (busy_eq_false_iff s).2 h, hl, show (cmdOp Command.nop.word).toNat = 0 from rfl]

theorem acceptCheck_configure (h : s.queue = []) : s.acceptCheck Command.configure.word =
    if s.cfgValid then some .configured else if s.sel = 3#2 then some .badVariant
    else if s.refclk = 0#32 then some .badClk else none := by
  have hl := command_word_legal .configure
  simp [State.acceptCheck, (busy_eq_false_iff s).2 h, hl, show (cmdOp Command.configure.word).toNat = 1 from rfl]

theorem acceptCheck_init (h : s.queue = []) : s.acceptCheck Command.init.word =
    if s.cfgValid then none else some .notConfig := by
  have hl := command_word_legal .init
  simp [State.acceptCheck, (busy_eq_false_iff s).2 h, hl, show (cmdOp Command.init.word).toNat = 2 from rfl]

theorem acceptCheck_setFrequency (h : s.queue = []) : s.acceptCheck Command.setFrequency.word =
    if s.cfgValid then (if s.enc = .uninit then some .notReady else none) else some .notConfig := by
  have hl := command_word_legal .setFrequency
  simp [State.acceptCheck, (busy_eq_false_iff s).2 h, hl, show (cmdOp Command.setFrequency.word).toNat = 3 from rfl]

theorem acceptCheck_quantize28 (h : s.queue = []) : s.acceptCheck Command.quantize28.word =
    if s.refclk = 0#32 then some .badClk else none := by
  have hl := command_word_legal .quantize28
  simp [State.acceptCheck, (busy_eq_false_iff s).2 h, hl, show (cmdOp Command.quantize28.word).toNat = 4 from rfl]

theorem acceptCheck_quantize32 (h : s.queue = []) : s.acceptCheck Command.quantize32.word =
    if s.refclk = 0#32 then some .badClk else none := by
  have hl := command_word_legal .quantize32
  simp [State.acceptCheck, (busy_eq_false_iff s).2 h, hl, show (cmdOp Command.quantize32.word).toNat = 4 from rfl]

/-- An accepted command found the queue empty (R262). -/
theorem queue_empty_of_accepted {v : Word} (h : s.acceptCheck v = none) : s.queue = [] := by
  by_contra hq
  simp [acceptCheck_busy s v hq] at h

/-- A word that is reserved or illegal is never accepted (R84). -/
theorem acceptCheck_unlisted {v : Word} (h : reservedEncoding v = true ∨ illegalOp v = true) :
    ∃ e, s.acceptCheck v = some e := by
  by_cases hq : s.queue = []
  · by_cases hr : reservedEncoding v = true
    · exact ⟨_, acceptCheck_reserved s hq hr⟩
    · rcases h with h | h
      · exact absurd h hr
      · exact ⟨_, acceptCheck_illegal s hq (by simpa using hr) h⟩
  · exact ⟨_, acceptCheck_busy s v hq⟩

/-! ### The configuration latch -/

theorem selVariant_none_iff (c : BitVec 2) : selVariant c = none ↔ c = 3#2 := by
  revert c; decide

theorem latchConfig_some {v : Variant} (h : selVariant s.sel = some v) :
    s.latchConfig = { s with cfgVariant := v, cfgRefclk := s.refclk, cfgValid := true } := by
  simp [State.latchConfig, h]

/-! ### The sequencer -/

/-- Everything a sequencer step can do (R210). -/
theorem sequencerStep_cases :
    (s.queue = [] ∧ s.sequencerStep = s) ∨
    (∃ m rest, s.queue = m :: rest ∧ s.sequencerStep = (s.perform m).setQueue rest) := by
  unfold State.sequencerStep
  cases h : s.queue with
  | nil => exact .inl ⟨rfl, rfl⟩
  | cons m rest => exact .inr ⟨m, rest, rfl, rfl⟩

theorem sequencerStep_cons {m : MicroStep} {rest : List MicroStep} (h : s.queue = m :: rest) :
    s.sequencerStep = (s.perform m).setQueue rest := by
  simp [State.sequencerStep, h]

theorem sequencerStep_nil (h : s.queue = []) : s.sequencerStep = s := by
  simp [State.sequencerStep, h]

/-! ### Programs without SetReady -/

theorem setReady_not_mem_sendBit (v : Variant) (b : Bool) : MicroStep.setReady ∉ sendBit v b := by
  cases v <;> simp [sendBit, settles]

theorem setReady_not_mem_sendFrame {k : Nat} (v : Variant) (val : BitVec k) (n : Nat) (o : BitOrder) :
    MicroStep.setReady ∉ sendFrame v val n o := by
  simp only [sendFrame, List.mem_flatMap, not_exists, not_and]
  exact fun b _ => setReady_not_mem_sendBit v b

theorem setReady_not_mem_setfProgram (rom : Rom28) (w : Word) (clkmul wave : Bool) (v : Variant) :
    MicroStep.setReady ∉ setfProgram rom w clkmul wave v := by
  cases v <;>
    simp [setfProgram, setf28, setf32, frame28, commitPulse, setReady_not_mem_sendFrame]

/-! ### The host's turn -/

/-- What a transaction at the port can do to the state: one case per kind of access (43_host_access.md). -/
inductive HostEffect (s : State) : State → Prop
  | read (r : Reg) : HostEffect s (s.hostRead r)
  | ignored : HostEffect s s
  | wroteFreq (v : Word) : HostEffect s (s.setFreq v)
  | wroteRefclk (v : Word) : HostEffect s (s.setRefclk v)
  | wroteCal (v : Word) : HostEffect s (s.setCal v)
  | wroteOptions (v : Word) : HostEffect s (s.setOptions v)
  | wroteVariant (v : Word) : HostEffect s (s.setVariant v)
  | rejected (e : ErrCode) : HostEffect s (s.reject e)
  | cleared (hq : s.queue = []) : HostEffect s (s.setErr .none)
  | configured (hq : s.queue = []) (hc : s.cfgValid = false) (hr : s.refclk ≠ 0#32) (v : Variant)
      (hv : selVariant s.sel = some v) :
      HostEffect s { s with cfgVariant := v, cfgRefclk := s.refclk, cfgValid := true, err := .none }
  | initStarted (hq : s.queue = []) (hc : s.cfgValid = true) : HostEffect s (s.queueInit.setErr .none)
  | setfStarted (hq : s.queue = []) (hc : s.cfgValid = true) (he : s.enc = .ready) : HostEffect s (s.queueSetf.setErr .none)
  | quantStarted (hq : s.queue = []) (hr : s.refclk ≠ 0#32) (n : Nat) (hn : n = 28 ∨ n = 32) :
      HostEffect s ((s.queueQuantize n).setErr .none)

/-- A command either is rejected, or finds the queue empty and has its effect. -/
theorem command_effect {v : Word} {effect : State → State}
    (accepted : s.acceptCheck v = none → s.queue = [] → HostEffect s ((effect s).setErr .none)) :
    HostEffect s (s.command v effect) := by
  rcases command_cases s v effect with ⟨e, _, h⟩ | ⟨ha, h⟩
  · exact h ▸ .rejected e
  · exact h ▸ accepted ha (queue_empty_of_accepted s ha)

/-- Every instruction answers a next state, and the state changes in one of the ways of `HostEffect`. -/
theorem exec_effect (i : Instr) : ∃ u, exec i s = .next u ∧ HostEffect s u := by
  cases i with
  | rdCmd => exact ⟨_, rfl, .read _⟩
  | rdStatus => exact ⟨_, rfl, .read _⟩
  | rdFreq => exact ⟨_, rfl, .read _⟩
  | rdRefclk => exact ⟨_, rfl, .read _⟩
  | rdCal => exact ⟨_, rfl, .read _⟩
  | rdOptions => exact ⟨_, rfl, .read _⟩
  | rdVariant => exact ⟨_, rfl, .read _⟩
  | rdWord => exact ⟨_, rfl, .read _⟩
  | wrStatus v => exact ⟨_, rfl, .ignored⟩
  | wrFreq v => exact ⟨_, rfl, .wroteFreq v⟩
  | wrRefclk v => exact ⟨_, rfl, .wroteRefclk v⟩
  | wrCal v => exact ⟨_, rfl, .wroteCal v⟩
  | wrOptions v => exact ⟨_, rfl, .wroteOptions v⟩
  | wrVariant v => exact ⟨_, rfl, .wroteVariant v⟩
  | wrWord v => exact ⟨_, rfl, .ignored⟩
  | cmdNop => exact ⟨_, rfl, command_effect s fun _ hq => .cleared hq⟩
  | cmdConfigure =>
    refine ⟨_, rfl, command_effect s fun ha hq => ?_⟩
    rw [acceptCheck_configure s hq] at ha
    have hc : s.cfgValid = false := Bool.eq_false_iff.2 fun hc => by simp [hc] at ha
    have hs : s.sel ≠ 3#2 := by intro hs; simp [hc, hs] at ha
    have hr : s.refclk ≠ 0#32 := by intro hr; simp [hc, hs, hr] at ha
    obtain ⟨v, hv⟩ := Option.ne_none_iff_exists'.1 fun h => hs ((selVariant_none_iff _).1 h)
    exact latchConfig_some s hv ▸ .configured hq hc hr v hv
  | cmdInitialize =>
    refine ⟨_, rfl, command_effect s fun ha hq => .initStarted hq ?_⟩
    rw [acceptCheck_init s hq] at ha
    by_contra hc; simp [hc] at ha
  | cmdSetFrequency =>
    refine ⟨_, rfl, command_effect s fun ha hq => ?_⟩
    rw [acceptCheck_setFrequency s hq] at ha
    have hc : s.cfgValid = true := by by_contra hc; simp [hc] at ha
    have he : s.enc ≠ .uninit := by intro he; simp [hc, he] at ha
    exact .setfStarted hq hc (by cases h : s.enc with | uninit => exact absurd h he | ready => rfl)
  | cmdQuantize28 =>
    refine ⟨_, rfl, command_effect s fun ha hq => .quantStarted hq ?_ 28 (.inl rfl)⟩
    rw [acceptCheck_quantize28 s hq] at ha
    intro hr; simp [hr] at ha
  | cmdQuantize32 =>
    refine ⟨_, rfl, command_effect s fun ha hq => .quantStarted hq ?_ 32 (.inr rfl)⟩
    rw [acceptCheck_quantize32 s hq] at ha
    intro hr; simp [hr] at ha

/-- A write to CMD of an unlisted word answers a next state too. -/
theorem execUnlistedCommand_effect (v : Word) : ∃ u, execUnlistedCommand v s = .next u ∧ HostEffect s u :=
  ⟨_, rfl, command_effect s fun _ hq => .cleared hq⟩

/-- Every transaction answers a next state, and the state changes in one of the ways of `HostEffect` (R230, R231, R264). -/
theorem runTransaction_effect (t : Transaction) : ∃ u, runTransaction t s = .next u ∧ HostEffect s u := by
  unfold runTransaction
  cases decode t with
  | ok i => exact exec_effect s i
  | error e => cases e <;> exact execUnlistedCommand_effect s _

/-- A host effect leaves the lines, the trace, `WORD`, `enc` and the host's own program and turns alone. -/
theorem HostEffect.frame {s u : State} (h : HostEffect s u) :
    u.lineData = s.lineData ∧ u.lineClk = s.lineClk ∧ u.lineLoad = s.lineLoad ∧ u.trace = s.trace ∧ u.word = s.word ∧
      u.enc = s.enc ∧ u.program = s.program ∧ u.turns = s.turns := by
  cases h <;> exact ⟨rfl, rfl, rfl, rfl, rfl, rfl, rfl, rfl⟩

/-- A host effect changes a queue only when it was empty (20_memory.md R71.4). -/
theorem HostEffect.queue {s u : State} (h : HostEffect s u) : u.queue = s.queue ∨ s.queue = [] := by
  cases h <;> first | exact .inl rfl | exact .inr (by assumption)

/-! ### A step -/

/-- What a byte-addressed access can do: stop at the adapter, or act as a transaction. -/
theorem runByteAccess_cases (write : Bool) (addr : Nat) (data : Word) :
    (∃ u, runByteAccess write addr data s = .next u ∧ HostEffect s u) ∨
    runByteAccess write addr data s = .refused (.misalignedByteAddress addr) ∨
    runByteAccess write addr data s = .fault (.unmappedByteAddress addr) := by
  unfold runByteAccess
  cases adapt Config.k3ddsBase addr with
  | index i => exact .inl (runTransaction_effect s _)
  | misaligned => exact .inr (.inl rfl)
  | unmapped => exact .inr (.inr rfl)

/-- What a step that answers a next state did: a micro-step, a reset, an idle turn of the host, or a host access. The state it acts on has the
turn (and for the host, the operation) used up. -/
theorem step_cases {s t : State} (h : step s = .next t) :
    (nextTurn s = .sequencer ∧ t = (s.setTurns s.turns.tail).sequencerStep) ∨
    (nextTurn s = .rst ∧ t = (s.setTurns s.turns.tail).resetInput) ∨
    (nextTurn s = .host ∧ ∃ p, HostEffect ((s.setTurns s.turns.tail).setProgram p) t) := by
  unfold step takeTurn at h
  cases hn : nextTurn s with
  | sequencer => simp only [hn] at h; cases h; exact .inl ⟨rfl, rfl⟩
  | rst => simp only [hn] at h; cases h; exact .inr (.inl ⟨rfl, rfl⟩)
  | host =>
    refine .inr (.inr ⟨rfl, ?_⟩)
    simp only [hn] at h
    unfold hostTurn at h
    cases hp : (s.setTurns s.turns.tail).program with
    | nil => simp only [hp] at h; cases h; exact ⟨s.program, .ignored⟩
    | cons op rest =>
      cases op with
      | transaction tr =>
        simp only [hp] at h
        obtain ⟨u, hu, he⟩ := runTransaction_effect ((s.setTurns s.turns.tail).setProgram rest) tr
        rw [hu] at h; cases h; exact ⟨rest, he⟩
      | byteAccess write addr data =>
        simp only [hp] at h
        rcases runByteAccess_cases ((s.setTurns s.turns.tail).setProgram rest) write addr data with ⟨u, hu, he⟩ | hu | hu
        · rw [hu] at h; cases h; exact ⟨rest, he⟩
        · rw [hu] at h; cases h
        · rw [hu] at h; cases h
      | waitIdle =>
        simp only [hp] at h
        cases h
        unfold waitIdleTurn
        split
        · exact ⟨s.program, .read .status⟩
        · exact ⟨rest, .read .status⟩

/-! ### Runs -/

theorem coreRun_next (M : Host.Core) (k : Nat) {s t : M.State} (h : M.step s = .next t) : M.run (k + 1) s = M.run k t := by
  simp [Host.Core.run, h]

theorem coreRun_fault (M : Host.Core) (k : Nat) {s : M.State} {f : M.Fault} (h : M.step s = .fault f) :
    M.run (k + 1) s = .fault f := by
  simp [Host.Core.run, h]

theorem coreRun_refused (M : Host.Core) (k : Nat) {s : M.State} {r : M.Refusal} (h : M.step s = .refused r) :
    M.run (k + 1) s = .refused r := by
  simp [Host.Core.run, h]

theorem runSteps_eq_core_run (k : Nat) (s : State) : runSteps k s = core.run k s := by
  induction k generalizing s with
  | zero => rfl
  | succ k ih =>
    unfold runSteps
    cases h : step s with
    | next t => exact (ih t).trans (coreRun_next core k h).symm
    | fault f => exact (coreRun_fault core k h).symm
    | refused r => exact (coreRun_refused core k h).symm

/-- A run whose first step answers a next state goes on from there. -/
theorem runSteps_succ {s u : State} (k : Nat) (h : step s = .next u) : runSteps (k + 1) s = runSteps k u := by
  simp [runSteps, h]

end Sys2Proof.Machine
end

