-- ==== Sys2Proof/Laws/PerInstr.lean ====
section
/-! SUPPORT. The statement families made per instruction (LAWS.json), about instructions as syntax. -/

namespace Sys2Proof.Laws

/-! ### MatchesRow: an instruction's encoding has the fixed bits of its own row of spec/opcode_table.json -/

/-- The row of a mnemonic accepts the encoding of every instruction with that mnemonic. -/
def MatchesRow.Statement (i : Instr) : Prop :=
  ∃ r ∈ opcodeTable, r.mnemonic = mnemonic i ∧ r.accepts (encode i) = true

/-- A read has exactly the bits its row fixes. -/
theorem read_matches (i : Instr) (r : Row) (hr : r ∈ opcodeTable) (hm : r.mnemonic = mnemonic i) (ha : encode i = r.pattern)
    (hp : r.pattern &&& r.mask = r.pattern) : MatchesRow.Statement i :=
  ⟨r, hr, hm, by simp [Row.accepts, ha, hp]⟩

/-- The fixed bits of a write row are its four top bits, which no written value reaches. -/
theorem write_accepts (r : Reg) (v : Word) :
    writeTransaction r v &&& 0xF00000000#36 = writeTransaction r 0#32 := by
  apply BitVec.eq_of_getLsbD_eq
  intro k hk
  simp only [BitVec.getLsbD_and, writeTransaction, transaction_getLsbD]
  by_cases h : k < 32
  · have hm : (0xF00000000#36).getLsbD k = false := by interval_cases k <;> decide
    simp [h, hm]
  · have hm : (0xF00000000#36).getLsbD k = true := by
      have : k = 32 ∨ k = 33 ∨ k = 34 ∨ k = 35 := by omega
      rcases this with rfl | rfl | rfl | rfl <;> decide
    simp [h, hm]

/-- A write matches the row whose pattern is its encoding with DATA zero. -/
theorem write_matches (i : Instr) (r : Reg) (v : Word) (row : Row) (hr : row ∈ opcodeTable) (hm : row.mnemonic = mnemonic i)
    (hk : row.mask = 0xF00000000#36) (hp : row.pattern = writeTransaction r 0#32) (he : encode i = writeTransaction r v) :
    MatchesRow.Statement i :=
  ⟨row, hr, hm, by simp [Row.accepts, hk, hp, he, write_accepts]⟩

namespace MatchesRow

theorem rdCmd : Statement .rdCmd := read_matches _ ⟨"rd_CMD", 0x000000000#36, 0xF00000000#36⟩ (by decide) rfl rfl rfl
theorem rdStatus : Statement .rdStatus := read_matches _ ⟨"rd_STATUS", 0x100000000#36, 0xF00000000#36⟩ (by decide) rfl rfl rfl
theorem rdFreq : Statement .rdFreq := read_matches _ ⟨"rd_FREQ", 0x200000000#36, 0xF00000000#36⟩ (by decide) rfl rfl rfl
theorem rdRefclk : Statement .rdRefclk := read_matches _ ⟨"rd_REFCLK", 0x300000000#36, 0xF00000000#36⟩ (by decide) rfl rfl rfl
theorem rdCal : Statement .rdCal := read_matches _ ⟨"rd_CAL", 0x400000000#36, 0xF00000000#36⟩ (by decide) rfl rfl rfl
theorem rdOptions : Statement .rdOptions := read_matches _ ⟨"rd_OPTIONS", 0x500000000#36, 0xF00000000#36⟩ (by decide) rfl rfl rfl
theorem rdVariant : Statement .rdVariant := read_matches _ ⟨"rd_VARIANT", 0x600000000#36, 0xF00000000#36⟩ (by decide) rfl rfl rfl
theorem rdWord : Statement .rdWord := read_matches _ ⟨"rd_WORD", 0x700000000#36, 0xF00000000#36⟩ (by decide) rfl rfl rfl

theorem wrStatus (v : Word) : Statement (.wrStatus v) :=
  write_matches _ .status v ⟨"wr_STATUS", 0x900000000#36, 0xF00000000#36⟩ (by decide) rfl rfl rfl rfl
theorem wrFreq (v : Word) : Statement (.wrFreq v) :=
  write_matches _ .freq v ⟨"wr_FREQ", 0xA00000000#36, 0xF00000000#36⟩ (by decide) rfl rfl rfl rfl
theorem wrRefclk (v : Word) : Statement (.wrRefclk v) :=
  write_matches _ .refclk v ⟨"wr_REFCLK", 0xB00000000#36, 0xF00000000#36⟩ (by decide) rfl rfl rfl rfl
theorem wrCal (v : Word) : Statement (.wrCal v) :=
  write_matches _ .cal v ⟨"wr_CAL", 0xC00000000#36, 0xF00000000#36⟩ (by decide) rfl rfl rfl rfl
theorem wrOptions (v : Word) : Statement (.wrOptions v) :=
  write_matches _ .options v ⟨"wr_OPTIONS", 0xD00000000#36, 0xF00000000#36⟩ (by decide) rfl rfl rfl rfl
theorem wrVariant (v : Word) : Statement (.wrVariant v) :=
  write_matches _ .variant v ⟨"wr_VARIANT", 0xE00000000#36, 0xF00000000#36⟩ (by decide) rfl rfl rfl rfl
theorem wrWord (v : Word) : Statement (.wrWord v) :=
  write_matches _ .word v ⟨"wr_WORD", 0xF00000000#36, 0xF00000000#36⟩ (by decide) rfl rfl rfl rfl

theorem cmdNop : Statement .cmdNop := read_matches _ ⟨"cmd_NOP", 0x800000000#36, 0xFFFFFFFFF#36⟩ (by decide) rfl rfl rfl
theorem cmdConfigure : Statement .cmdConfigure :=
  read_matches _ ⟨"cmd_CONFIGURE", 0x800000001#36, 0xFFFFFFFFF#36⟩ (by decide) rfl rfl rfl
theorem cmdInitialize : Statement .cmdInitialize :=
  read_matches _ ⟨"cmd_INITIALIZE", 0x800000002#36, 0xFFFFFFFFF#36⟩ (by decide) rfl rfl rfl
theorem cmdSetFrequency : Statement .cmdSetFrequency :=
  read_matches _ ⟨"cmd_SET_FREQUENCY", 0x800000003#36, 0xFFFFFFFFF#36⟩ (by decide) rfl rfl rfl
theorem cmdQuantize28 : Statement .cmdQuantize28 :=
  read_matches _ ⟨"cmd_QUANTIZE.28", 0x800000004#36, 0xFFFFFFFFF#36⟩ (by decide) rfl rfl rfl
theorem cmdQuantize32 : Statement .cmdQuantize32 :=
  read_matches _ ⟨"cmd_QUANTIZE.32", 0x80000000C#36, 0xFFFFFFFFF#36⟩ (by decide) rfl rfl rfl

end MatchesRow

end Sys2Proof.Laws
end

