-- ==== Sys2Proof/Laws/Quantizer.lean ====
section
/-! SUPPORT. The quantizer's factors, and the quantizer without its free value. -/

namespace Sys2Proof.Machine

/-- The calibration factor is `2^31 − sint(c)`, between 1 and `2^32` (spec/40_quantizer.md R121). -/
theorem calFactor_spec (c : Word) : 1 ≤ calFactor c ∧ calFactor c ≤ 2 ^ 32 ∧ (calFactor c : Int) = 2 ^ 31 - c.toInt := by
  have h1 : c.toInt < 2 ^ 31 := BitVec.toInt_lt
  have h2 : -2 ^ 31 ≤ c.toInt := BitVec.le_toInt c
  unfold calFactor
  omega

theorem divisor_ne_zero {clk : Nat} (c : Word) (h : 1 ≤ clk) : divisor clk c ≠ 0 :=
  Nat.mul_ne_zero (by omega) (by have := (calFactor_spec c).1; omega)

/-- With a clock of at least 1 the quotient is the exact one: the free value plays no part. -/
theorem quantize_eq (f n : Nat) {clk : Nat} (c : Word) (h : 1 ≤ clk) :
    quantize f clk c n = dividend f n / divisor clk c % 2 ^ n := by
  simp [quantize, quotient, divisor_ne_zero c h]

theorem one_le_toNat {clk : Word} (h : clk ≠ 0#32) : 1 ≤ clk.toNat := by
  have : clk.toNat ≠ 0 := fun e => h (BitVec.eq_of_toNat_eq (by simpa using e))
  omega

/-- The tuning word, written out (R122). -/
theorem tuningWord_eq (f c : Word) (n : Nat) {clk : Word} (h : clk ≠ 0#32) : tuningWord f clk c n =
    BitVec.ofNat 32 (f.toNat * 2 ^ (n + 31) / (clk.toNat * (2 ^ 31 - c.toInt).toNat) % 2 ^ n) := by
  rw [tuningWord, quantize_eq _ _ _ (one_le_toNat h)]
  rfl

end Sys2Proof.Machine
end

