-- ==== Sys2Proof/Laws/Transmitter.lean ====
section
/-! SUPPORT. What the transmitter's functions produce: events, lengths, receivers one bit at a time, and the two shape checks of Safety.lean. -/

namespace Sys2Proof.Machine

/-! ### Events -/

@[simp] theorem busEvents_nil : busEvents [] = [] := rfl

@[simp] theorem busEvents_append (a b : List MicroStep) : busEvents (a ++ b) = busEvents a ++ busEvents b := by
  simp [busEvents]

theorem busEvents_cons (m : MicroStep) (q : List MicroStep) : busEvents (m :: q) = busEvents [m] ++ busEvents q := by
  cases m <;> rfl

/-- Performing a micro-step appends exactly its event, and leaves the turns and the host's program alone. -/
theorem perform_setQueue (s : State) (m : MicroStep) (q : List MicroStep) :
    ((s.perform m).setQueue q).trace = s.trace ++ busEvents [m] ∧ ((s.perform m).setQueue q).queue = q ∧
      ((s.perform m).setQueue q).turns = s.turns ∧ ((s.perform m).setQueue q).program = s.program := by
  cases m <;> simp [State.perform, busEvents, microStepEvent]

/-! ### Lengths -/

@[simp] theorem bitPositions_length (n : Nat) (o : BitOrder) : (bitPositions n o).length = n := by
  cases o <;> simp [bitPositions]

@[simp] theorem frameBits_length {k : Nat} (val : BitVec k) (n : Nat) (o : BitOrder) : (frameBits val n o).length = n := by
  simp [frameBits]

theorem sendBit_length (v : Variant) (b : Bool) : (sendBit v b).length = if settles v then 4 else 3 := by
  cases v <;> rfl

theorem sendBits_length (v : Variant) (bits : List Bool) :
    (bits.flatMap (sendBit v)).length = bits.length * (if settles v then 4 else 3) := by
  induction bits with
  | nil => simp
  | cons b l ih => rw [List.flatMap_cons, List.length_append, ih, sendBit_length, List.length_cons]; ring

theorem sendFrame_length {k : Nat} (v : Variant) (val : BitVec k) (n : Nat) (o : BitOrder) :
    (sendFrame v val n o).length = n * (if settles v then 4 else 3) := by
  rw [sendFrame, sendBits_length, frameBits_length]

theorem quant_not_mem_sendFrame {k : Nat} (v : Variant) (val : BitVec k) (n : Nat) (o : BitOrder) (w : Word) :
    MicroStep.quant w ∉ sendFrame v val n o := by
  simp only [sendFrame, List.mem_flatMap, not_exists, not_and]
  intro b _
  cases v <;> simp [sendBit, settles]

/-! ### Receivers, one bit at a time -/

theorem sampleBits_sendBit (v : Variant) (rising d b : Bool) (es : List BusEvent) :
    sampleBits rising d (busEvents (sendBit v b) ++ es) = b :: sampleBits rising b es := by
  cases v <;> cases rising <;> simp [busEvents, sendBit, settles, microStepEvent, sampleBits]

theorem committedFrames_sendBit (v : Variant) (d b : Bool) (acc : List Bool) (es : List BusEvent) :
    committedFrames d acc (busEvents (sendBit v b) ++ es) = committedFrames b (acc ++ [b]) es := by
  cases v <;> simp [busEvents, sendBit, settles, microStepEvent, committedFrames]

theorem committedFrames_commitPulse (d : Bool) (acc : List Bool) (es : List BusEvent) :
    committedFrames d acc (busEvents commitPulse ++ es) = acc :: committedFrames d [] es := by
  simp [busEvents, commitPulse, microStepEvent, committedFrames]

/-! ### Levels and uncommitted bits of a trace -/

theorem traceLevels_append (tr : List BusEvent) (e : BusEvent) : traceLevels (tr ++ [e]) = (traceLevels tr).after e := by
  simp [traceLevels]

theorem openBits_append (tr : List BusEvent) (e : BusEvent) : openBits (tr ++ [e]) = openBitsAfter (openBits tr) e := by
  simp [openBits]

/-! ### The shape checks -/

/-- Two shaped lists put together are shaped, when the first has no `SetReady`. -/
theorem pulsesShaped_append {q r : List MicroStep} {c l : Bool} (hq : pulsesShaped c l q = true) (hn : MicroStep.setReady ∉ q)
    (hr : pulsesShaped false false r = true) : pulsesShaped c l (q ++ r) = true := by
  induction q generalizing c l with
  | nil => cases c <;> cases l <;> simp_all [pulsesShaped]
  | cons m q ih =>
    have hn' : MicroStep.setReady ∉ q := fun hm => hn (List.mem_cons_of_mem _ hm)
    cases m with
    | setReady => exact absurd (List.mem_cons_self ..) hn
    | _ => simp only [List.cons_append, pulsesShaped, Bool.and_eq_true] at hq ⊢; exact ⟨hq.1, ih hq.2 hn'⟩

theorem pulsesShaped_sendFrame {k : Nat} (v : Variant) (val : BitVec k) (n : Nat) (o : BitOrder) :
    pulsesShaped false false (sendFrame v val n o) = true := by
  unfold sendFrame
  induction frameBits val n o with
  | nil => rfl
  | cons b l ih => rw [List.flatMap_cons]; exact pulsesShaped_append (by cases v <;> rfl) (setReady_not_mem_sendBit v b) ih

/-- A frame adds its bits to the uncommitted ones. -/
theorem commitsWhole_sendFrame {k : Nat} (v u : Variant) (val : BitVec k) (m : Nat) (o : BitOrder) (q : List MicroStep) (n : Nat) :
    commitsWhole v n (sendFrame u val m o ++ q) = commitsWhole v (n + m) q := by
  have bits : ∀ (l : List Bool) (n : Nat), commitsWhole v n (l.flatMap (sendBit u) ++ q) = commitsWhole v (n + l.length) q := by
    intro l
    induction l with
    | nil => simp
    | cons b l ih =>
      intro n
      rw [List.flatMap_cons]
      cases u <;> simp [sendBit, settles, commitsWhole, ih, Nat.add_assoc, Nat.add_comm 1]
  rw [sendFrame, bits, frameBits_length]

theorem commitsWhole_loadHigh (v : Variant) (n : Nat) (q : List MicroStep) :
    commitsWhole v n (.load true :: q) =
      ((n == commitWidth v || (n == 0 && atStartPulse v (.load true :: q))) && commitsWhole v 0 q) := by
  simp [commitsWhole]

/-- The start pulse belongs to the 32-bit family, with exactly the end of INIT32 pending. -/
theorem atStartPulse_iff (v : Variant) (q : List MicroStep) : atStartPulse v q = true ↔ v ≠ .v28 ∧ q = fromStartPulse v := by
  cases v <;> simp [atStartPulse]

/-- `INITIALIZE` of the 32-bit family is the clock strobe and then the rest from the start pulse on. -/
theorem initProgram_setReady_of_ne_v28 (rom : Rom28) {v : Variant} (h : v ≠ .v28) :
    initProgram rom Config.initModeByte v ++ [.setReady] = strobeClk ++ fromStartPulse v := by
  cases v with
  | v28 => exact absurd rfl h
  | v32 => rfl
  | v32m => rfl

theorem fromStartPulse_eq (v : Variant) :
    fromStartPulse v = .load true :: .load false :: (sendFrame v 0x00000000#32 32 .lsb ++
      (sendFrame v Config.initModeByte 8 .lsb ++ [.load true, .load false, .setReady])) := by
  simp [fromStartPulse, init32, strobeClk, pulseLoad, commitPulse]

/-- From the start pulse on, INIT32 commits only its whole stream. -/
theorem commitsWhole_fromStartPulse {v : Variant} (h : v ≠ .v28) : commitsWhole v 0 (fromStartPulse v) = true := by
  have ha := (atStartPulse_iff v _).2 ⟨h, rfl⟩
  rw [fromStartPulse_eq] at ha ⊢
  have hw : commitWidth v = 40 := by cases v <;> first | rfl | exact absurd rfl h
  simp [commitsWhole_loadHigh, ha]
  simp [commitsWhole, commitsWhole_sendFrame, hw]

end Sys2Proof.Machine
end

