-- ==== Sys2Proof/Tests/Slice0.lean ====
section
/-! SUPPORT. The model's own tests. Expected results come from spec/95_test_vectors.md (named in each comment) or from hand calculation from a rule.
The theorems named witness_<statement> show states and operands that meet the hypotheses of a statement, each clause of it. -/

namespace Sys2Proof.Machine.Tests

/-! ### Small states -/

/-- A block configured as `V32` at 125 MHz and READY, idle. -/
def idle32 : State :=
  { State.reset with sel := 1#2, refclk := 125000000#32, cfgValid := true, cfgVariant := .v32, cfgRefclk := 125000000#32, enc := .ready }

/-- The same block configured as `V28` at 25 MHz. -/
def idle28 : State := { idle32 with cfgVariant := .v28, cfgRefclk := 25000000#32 }

/-- A block with one micro-step pending. -/
def busy32 : State := { idle32 with queue := [.data true] }

/-- A block with `FREQ` and `REFCLK` written and nothing configured. -/
def staged (f clk : Word) : State := { State.reset with freq := f, refclk := clk }

/-- The general-knowledge reference ROM of 93_implementation_defined.md G1, used only here. -/
def referenceRom : Rom28 :=
  { init0 := 0x2100#16, init1 := 0x4000#16, init2 := 0x8000#16, init3 := 0xC000#16, init4 := 0xE000#16, init5 := 0x2000#16
    setfCtrl := 0x2100#16, triBit := 0x0002#16, setfPhase := 0xC000#16, setfRestore := 0x2000#16 }

/-- `STATUS` after one step on a transaction. -/
def statusAfter (s : State) (t : Nat) : Option Word :=
  match step (s.withFetchWord 36 t) with
  | .next u => some u.status
  | _ => none

/-- What the host reads in one step on a transaction. -/
def readAfter (s : State) (t : Nat) : List Word :=
  match step (s.withFetchWord 36 t) with
  | .next u => u.results
  | _ => []

/-- The queue after one step on a transaction. -/
def queueAfter (s : State) (t : Nat) : List MicroStep :=
  match step (s.withFetchWord 36 t) with
  | .next u => u.queue
  | _ => []

/-- The outcome is the next state `t`. -/
def goesTo (o : Host.Outcome State Fault Refusal) (t : State) : Bool :=
  match o with
  | .next u => decide (u = t)
  | .fault _ => false
  | .refused _ => false

/-! ### Well-formedness: the checks refuse -/

theorem test_wf_wr : HostLine.wellFormed (.wr .freq (2 ^ 32)) = false := by decide
theorem test_wf_config_variant : HostLine.wellFormed (.config (2 ^ 32) 1) = false := by decide
theorem test_wf_config_clock : HostLine.wellFormed (.config 1 (2 ^ 32)) = false := by decide
theorem test_wf_calibrate : HostLine.wellFormed (.calibrate (2 ^ 32)) = false := by decide
theorem test_wf_setf : HostLine.wellFormed (.setf (2 ^ 32)) = false := by decide
theorem test_wf_quant28 : HostLine.wellFormed (.quant28 1 (2 ^ 32)) = false ∧ HostLine.wellFormed (.quant28 (2 ^ 32) 1) = false := by decide
theorem test_wf_quant32 : HostLine.wellFormed (.quant32 1 (2 ^ 32)) = false ∧ HostLine.wellFormed (.quant32 (2 ^ 32) 1) = false := by decide
theorem test_wf_accepts : HostLine.wellFormed (.quant32 (2 ^ 32 - 1) 1) = true := by decide
theorem test_wf_rom_ctrl_count : Rom28.wellFormed { referenceRom with setfCtrl := 0x2000#16 } = false := by decide
theorem test_wf_rom_tri_count : Rom28.wellFormed { referenceRom with triBit := 0x0006#16 } = false := by decide
theorem test_wf_rom_overlap : Rom28.wellFormed { referenceRom with triBit := 0x0100#16 } = false := by decide

/-! ### Decoding: every constructor, by words written out from R80 and R85 (and P1 to P5 of 95_test_vectors.md) -/

theorem test_decode_reads : decode 0x000000000#36 = .ok .rdCmd ∧ decode 0x100000000#36 = .ok .rdStatus ∧
    decode 0x200000000#36 = .ok .rdFreq ∧ decode 0x300000000#36 = .ok .rdRefclk ∧ decode 0x400000000#36 = .ok .rdCal ∧
    decode 0x500000000#36 = .ok .rdOptions ∧ decode 0x600000000#36 = .ok .rdVariant ∧ decode 0x7FFFFFFFF#36 = .ok .rdWord := by decide
theorem test_decode_writes : decode 0x9FFFFFFFF#36 = .ok (.wrStatus 0xFFFFFFFF#32) ∧ decode 0xA00989680#36 = .ok (.wrFreq 10000000#32) ∧
    decode 0xB07735940#36 = .ok (.wrRefclk 125000000#32) ∧ decode 0xCFFDF3B64#36 = .ok (.wrCal 0xFFDF3B64#32) ∧
    decode 0xD00000002#36 = .ok (.wrOptions 2#32) ∧ decode 0xE00000001#36 = .ok (.wrVariant 1#32) ∧
    decode 0xF12345678#36 = .ok (.wrWord 0x12345678#32) := by decide
theorem test_decode_commands : decode 0x800000000#36 = .ok .cmdNop ∧ decode 0x800000001#36 = .ok .cmdConfigure ∧
    decode 0x800000002#36 = .ok .cmdInitialize ∧ decode 0x800000003#36 = .ok .cmdSetFrequency ∧
    decode 0x800000004#36 = .ok .cmdQuantize28 ∧ decode 0x80000000C#36 = .ok .cmdQuantize32 := by decide
/-- D7 to D10. -/
theorem test_decode_refusals : decode 0x800000005#36 = .error (.illegalCommand 5#32) ∧
    decode 0x80000000D#36 = .error (.reservedCommand 0xD#32) ∧ decode 0x80000000B#36 = .error (.reservedCommand 0xB#32) ∧
    decode 0x880000003#36 = .error (.reservedCommand 0x80000003#32) := by decide
theorem test_table_word : decodeTableWord 36 0xB07735940 = some (.wrRefclk 125000000#32) ∧ decodeTableWord 36 0x800000007 = none := by decide

/-! ### Reads and writes (H1 to H9) -/

theorem test_rdStatus : readAfter State.reset 0x100000000 = [0x00000300#32] := by decide
theorem test_rdVariant : readAfter State.reset 0x600000000 = [0x00000003#32] := by decide
theorem test_rdCmd : readAfter idle32 0x000000000 = [0#32] := by decide
theorem test_rdFreq : readAfter (staged 7100000#32 0#32) 0x200000000 = [0x006C5660#32] := by decide
/-- H10: the staging clock, not the configured one. -/
theorem test_rdRefclk : readAfter { idle32 with refclk := 100000000#32 } 0x300000000 = [0x05F5E100#32] := by decide
theorem test_rdCal : readAfter { State.reset with cal := 0x80000000#32 } 0x400000000 = [0x80000000#32] := by decide
theorem test_rdOptions : readAfter { State.reset with wave := true } 0x500000000 = [2#32] := by decide
theorem test_rdWord : readAfter { State.reset with word := 0x40000000#32 } 0x700000000 = [0x40000000#32] := by decide
theorem test_wrOptions : goesTo (exec (.wrOptions 0xFFFFFFFD#32) State.reset) { State.reset with clkmul := true, wave := false } := by decide
/-- H6. -/
theorem test_wrVariant : goesTo (exec (.wrVariant 0xFFFFFFFE#32) State.reset) { State.reset with sel := 2#2 } := by decide
/-- H7, H8. -/
theorem test_ignored_writes : statusAfter State.reset 0x9FFFFFFFF = some 0x300#32 ∧ goesTo (exec (.wrWord 0x12345678#32) State.reset) State.reset := by decide

/-! ### Commands and STATUS (X1 to X13, D11) -/

theorem test_setFrequency_unconfigured : statusAfter State.reset 0x800000003 = some 0x370#32 := by decide
theorem test_initialize_unconfigured : statusAfter State.reset 0x800000002 = some 0x370#32 := by decide
theorem test_configure_badVariant : statusAfter State.reset 0x800000001 = some 0x350#32 := by decide
theorem test_configure : statusAfter { State.reset with sel := 2#2, refclk := 180000000#32 } 0x800000001 = some 0x202#32 := by decide
theorem test_setFrequency_notReady : statusAfter { idle32 with cfgVariant := .v32m, enc := .uninit } 0x800000003 = some 0x282#32 := by decide
theorem test_reserved_and_illegal : statusAfter { idle32 with enc := .uninit } 0x800000015 = some 0x122#32 ∧
    statusAfter { idle32 with enc := .uninit } 0x800000005 = some 0x132#32 := by decide
/-- D11: E_BUSY comes before E_RESERVED. -/
theorem test_busy_first : statusAfter busy32 0x800000015 = some 0x117#32 := by decide
theorem test_nop : statusAfter { idle32 with err := .notReady } 0x800000000 = some 0x106#32 := by decide
/-- X13: INITIALIZE accepted, BUSY is 1 and READY still 0. -/
theorem test_initialize : statusAfter { idle32 with enc := .uninit } 0x800000002 = some 0x103#32 ∧
    (queueAfter idle32 0x800000002).take 5 = [.clk true, .clk false, .load true, .load false, .data false] := by decide
/-- Q5 and the first bits of E9. -/
theorem test_setFrequency : (queueAfter { idle32 with freq := 10000000#32 } 0x800000003).take 6 =
    [.quant 0x147AE147#32, .data true, .clk true, .clk false, .settle, .data true] := by decide
/-- Q10 and Q7 (P4). -/
theorem test_quantize28 : queueAfter (staged 7100000#32 25000000#32) 0x800000004 = [.quant 0x048B4395#32] := by decide
theorem test_quantize32 : queueAfter { staged 10000000#32 125000000#32 with cal := 0xFFDF3B64#32 } 0x80000000C = [.quant 0x1475A471#32] := by
  decide
theorem test_quantize_badClk : statusAfter (staged 1#32 0#32) 0x80000000C = some 0x360#32 := by decide

/-! ### The quantizer's corners (Q6, Q13, Q16, Q22, Q25, Q28) and its datapath -/

theorem test_quantizer_vectors : tuningWord 10000000#32 125000000#32 0x0020C49C#32 32 = 0x148020CD#32 ∧
    tuningWord 124999999#32 125000000#32 0#32 32 = 0xFFFFFFDD#32 ∧ tuningWord 62500000#32 125000000#32 0x80000000#32 32 = 0x40000000#32 ∧
    tuningWord 0xFFFFFFFF#32 0xFFFFFFFF#32 0x80000000#32 32 = 0x80000000#32 ∧
    tuningWord 1#32 125000000#32 0x7FFFFFFF#32 32 = 0x2E0BE826#32 ∧ tuningWord 100#32 125000000#32 1#32 32 = 0xD6B#32 := by decide
theorem test_datapath_q25 : quantizerDatapath 1#32 125000000#32 0x7FFFFFFF#32 true = 0x2E0BE826#32 := by decide

/-! ### Frames and streams (E6, E7, E9, E10, G1 and P2) -/

theorem test_frames_e6 : frameLo 0x00A3D70A#32 = 0x570A#16 ∧ frameHi 0x00A3D70A#32 = 0x428F#16 := by decide
theorem test_frames_e7 : frameLo 0x048B4395#32 = 0x4395#16 ∧ frameHi 0x048B4395#32 = 0x522D#16 := by decide
theorem test_control_frame : ctrl28 referenceRom false = 0x2100#16 ∧ ctrl28 referenceRom true = 0x2102#16 := by decide
theorem test_frame_bits : frameBits 0x570A#16 16 .msb =
    [false, true, false, true, false, true, true, true, false, false, false, false, true, false, true, false] := by decide
/-- The first eight bits of E9 and the control byte of E10. -/
theorem test_stream_bits : (frameBits 0x147AE147#32 32 .lsb).take 8 = [true, true, true, false, false, false, true, false] ∧
    frameBits (controlByte true) 8 .lsb = [true, false, false, false, false, false, false, false] := by decide
theorem test_sendBit : sendBit .v28 true = [.data true, .clk true, .clk false] ∧
    sendBit .v32m false = [.data false, .clk true, .clk false, .settle] := by decide

/-- The end of the stream of E10: `c[7]` and the one commit. -/
theorem test_setf32_end : (setf32 .v32m 0x147AE147#32 true).drop 156 =
    [.data false, .clk true, .clk false, .settle, .load true, .load false] := by decide

/-! ### The sequencer, the reset input and the adapter -/

theorem test_sequencer : goesTo (step busy32) { busy32 with queue := [], lineData := true, trace := [.data true] } := by decide
/-- Z3: a reset between the two edges of a commit. -/
theorem test_reset_in_commit : goesTo (step { busy32 with queue := [.load false], lineLoad := true, trace := [.load true], turns := [.rst] }) { State.reset with trace := [.load true, .reset] } := by decide
theorem test_adapter : adapt 0x1000 0x101C = .index 7#3 ∧ adapt 0x1000 0x1002 = .misaligned ∧ adapt 0x1000 0x1020 = .unmapped ∧
    adapt 0x1000 0x0FFF = .unmapped := by decide
theorem test_wire_view : wireView false [.data false, .clk true, .clk false, .data true, .data true] = [.clk true, .clk false, .data true] := by decide

/-! ### Witnesses: states and operands that meet the hypotheses of the statements -/

theorem witness_DecodeAfterEncode : (Instr.wrCal 0xFFFFFFFF#32).wellFormed = true ∧ decode (encode (.wrCal 0xFFFFFFFF#32)) = .ok (.wrCal 0xFFFFFFFF#32) := by
  decide
theorem witness_EncodeAfterDecode : decode 0x7FFFFFFFF#36 = .ok .rdWord ∧ encode .rdWord = 0x700000000#36 ∧
    decode 0x80000000C#36 = .ok .cmdQuantize32 ∧ encode .cmdQuantize32 = 0x80000000C#36 := by decide
theorem witness_OnlySixCommandWords : (0x80000000#32).extractLsb' 4 28 ≠ 0#28 ∧ (0x10#32).extractLsb' 4 28 ≠ 0#28 ∧
    ((0xF#32).getLsbD 3 = true ∧ (0xF#32).extractLsb' 0 3 ≠ 4#3) ∧ decode (writeTransaction .cmd 0xF#32) = .error (.reservedCommand 0xF#32) ∧
    decode (writeTransaction .cmd 0x7#32) = .error (.illegalCommand 0x7#32) := by decide
theorem witness_ReadAfterWrite : Reg.options ≠ .cmd ∧
    goesTo (runTransaction (writeTransaction .options 0xFFFFFFFF#32) State.reset) { State.reset with clkmul := true, wave := true } := by decide
/-- One state and word for each clause of the acceptance check, at the boundary of the next clause. -/
theorem witness_FirstFailingCheck :
    (busy32.queue ≠ [] ∧ goesTo (runTransaction (writeTransaction .cmd 0#32) busy32) { busy32 with err := .busy }) ∧
    (idle32.queue = [] ∧ goesTo (runTransaction (writeTransaction .cmd 0xD#32) idle32) { idle32 with err := .reserved }) ∧
    (goesTo (runTransaction (writeTransaction .cmd 0x7#32) idle32) { idle32 with err := .illegal }) ∧
    (goesTo (runTransaction (writeTransaction .cmd 1#32) idle32) { idle32 with err := .configured }) ∧
    (goesTo (runTransaction (writeTransaction .cmd 1#32) (staged 0#32 1#32)) { staged 0#32 1#32 with err := .badVariant }) ∧
    (goesTo (runTransaction (writeTransaction .cmd 1#32) { State.reset with sel := 2#2 }) { State.reset with sel := 2#2, err := .badClk }) ∧
    (goesTo (runTransaction (writeTransaction .cmd 2#32) State.reset) { State.reset with err := .notConfig }) ∧
    (goesTo (runTransaction (writeTransaction .cmd 3#32) { State.reset with enc := .ready }) { State.reset with enc := .ready, err := .notConfig }) ∧
    (goesTo (runTransaction (writeTransaction .cmd 3#32) { idle32 with enc := .uninit }) { idle32 with enc := .uninit, err := .notReady }) ∧
    (goesTo (runTransaction (writeTransaction .cmd 0xC#32) State.reset) { State.reset with err := .badClk }) ∧
    (goesTo (runTransaction (writeTransaction .cmd 4#32) (staged 0#32 1#32)) { staged 0#32 1#32 with queue := [.quant 0#32] }) := by
  decide
theorem witness_NopClearsErr : idle32.queue = [] ∧ busy32.queue ≠ [] := by decide
theorem witness_Configure : (staged 0#32 1#32).queue = [] ∧ (staged 0#32 1#32).cfgValid = false ∧ (staged 0#32 1#32).refclk ≠ 0#32 ∧
    ({ staged 0#32 1#32 with sel := 0#2 } : State).sel = 0#2 ∧ ({ staged 0#32 1#32 with sel := 1#2 } : State).sel = 1#2 ∧
    ({ staged 0#32 1#32 with sel := 2#2 } : State).sel = 2#2 ∧ State.reset.sel = 3#2 ∧ busy32.queue ≠ [] ∧
    ({ State.reset with sel := 2#2 } : State).refclk = 0#32 := by decide
theorem witness_Initialize : idle28.queue = [] ∧ idle28.cfgValid = true ∧ idle28.cfgVariant = .v28 ∧ idle32.queue = [] ∧ idle32.cfgValid = true := by
  decide
theorem witness_SetFrequency : (idle28.queue = [] ∧ idle28.cfgValid = true ∧ idle28.enc = .ready ∧ idle28.cfgRefclk ≠ 0#32 ∧ idle28.cfgVariant = .v28) ∧
    (idle32.queue = [] ∧ idle32.cfgValid = true ∧ idle32.enc = .ready ∧ idle32.cfgRefclk ≠ 0#32 ∧ idle32.cfgVariant = .v32) ∧
    busy32.queue ≠ [] ∧ (State.reset.queue = [] ∧ State.reset.cfgValid = false) ∧
    ({ idle32 with enc := .uninit } : State).enc = .uninit := by decide
theorem witness_Quantize : (staged 0xFFFFFFFF#32 1#32).queue = [] ∧ (staged 0xFFFFFFFF#32 1#32).refclk ≠ 0#32 := by decide
theorem witness_QuantizeIsTheRationalFormula : (1 : Nat) ≤ 1 ∧ quantize (2 ^ 32 - 1) 1 0#32 28 = 0 := by decide
theorem witness_Divisor : 1 ≤ (1#32).toNat ∧ divisor (1#32).toNat 0x7FFFFFFF#32 = 1 ∧ 1 ≤ (0xFFFFFFFF#32).toNat ∧
    divisor (0xFFFFFFFF#32).toNat 0x80000000#32 = (2 ^ 32 - 1) * 2 ^ 32 := by decide
theorem witness_Datapath : (1#32) ≠ 0#32 ∧ quantizerDatapath 0xFFFFFFFF#32 1#32 0#32 false = 0#32 := by decide
/-- Q12 and Q13: at and just below the effective clock. -/
theorem witness_WordWraps : 1 ≤ (125000000#32).toNat ∧ ((125000000#32).toNat : Int) * (2 ^ 31 - (0#32).toInt) ≤ (125000000#32).toNat * 2 ^ 31 ∧
    ((124999999#32).toNat : Int) * 2 ^ 31 < (125000000#32).toNat * (2 ^ 31 - (0#32).toInt) := by decide
theorem witness_Monotone : (0#32).toNat ≤ (124999999#32).toNat ∧
    ((124999999#32).toNat : Int) * 2 ^ 31 < (125000000#32).toNat * (2 ^ 31 - (0#32).toInt) := by decide
theorem witness_PositiveCalibration : 0 < (1#32).toInt ∧
    ((124999999#32).toNat : Int) * 2 ^ 31 < (125000000#32).toNat * (2 ^ 31 - (1#32).toInt) := by decide
theorem witness_QuarterClock : 1 ≤ (4#32).toNat ∧ (4#32).toNat % 4 = 0 ∧ quantize 1 4 0#32 32 = 2 ^ 30 := by decide
theorem witness_OneStepBelow : 1 ≤ (1#32).toNat ∧ ((0#32).toNat : Int) * 2 ^ 31 < (1#32).toNat * (2 ^ 31 - (0x7FFFFFFF#32).toInt) := by decide
theorem witness_FrequencyFrames : (0xFFFFFFF#32).toNat < 2 ^ 28 ∧ frameLo 0xFFFFFFF#32 = 0x7FFF#16 ∧ frameHi 0xFFFFFFF#32 = 0x7FFF#16 := by decide
theorem witness_ShiftRegister : (setfJob referenceRom 0x00A3D70A#32 false true .v28).entries.length < 16 ∧
    (∀ e ∈ (setfJob referenceRom 0x00A3D70A#32 false true .v28).entries, 1 ≤ e.shape.1 ∧ e.shape.1 ≤ 32 ∨ e = .commit) := by decide
theorem witness_Rom : referenceRom.wellFormed = true := by decide
theorem witness_StepRuns : decode 0xA00000007#36 = .ok (.wrFreq 7#32) ∧
    nextTurn { busy32 with turns := [.host], program := [.transaction 0xA00000007#36] } = .host ∧
    goesTo (step { busy32 with turns := [.host], program := [.transaction 0xA00000007#36] }) { busy32 with freq := 7#32 } := by decide
theorem witness_Sequencer : nextTurn { idle32 with turns := [.sequencer] } = .sequencer ∧ idle32.queue = [] ∧ nextTurn busy32 = .sequencer := by decide
/-- Each micro-step is the first of the queue of some such state. -/
theorem witness_Sequencer_clauses (m : MicroStep) : nextTurn { idle32 with queue := [m] } = .sequencer ∧ ({ idle32 with queue := [m] } : State).queue = m :: [] := by
  cases m <;> exact ⟨rfl, rfl⟩
theorem witness_ResetInput : nextTurn { busy32 with turns := [.rst] } = .rst := by decide
theorem witness_ResetMidProgram : 1 ≤ ({ busy32 with turns := [.sequencer, .rst] } : State).queue.length ∧
    ({ busy32 with turns := [.sequencer, .rst] } : State).turns = List.replicate 1 .sequencer ++ (.rst :: []) := by decide
theorem witness_QueuedProgram : busy32.queue ≠ [] ∧ nextTurn busy32 ≠ .rst ∧
    goesTo (step busy32) { busy32 with queue := [], lineData := true, trace := [.data true] } ∧
    goesTo (step { busy32 with turns := [.host], program := [.transaction 0xA00000007#36] }) { busy32 with freq := 7#32 } := by decide
theorem witness_SequencerDrains : busy32.turns = [] ∧ busy32.queue.length = 1 := by decide
theorem witness_AcceptedSetFrequency (s : State)
    (h : s = { idle28 with program := [.transaction 0x800000003#36] } ∨ s = { idle32 with program := [.transaction 0x800000003#36] }) :
    s.turns = [] ∧ s.queue = [] ∧ s.program = .transaction 0x800000003#36 :: [] ∧ s.cfgValid = true ∧ s.enc = .ready ∧ s.cfgRefclk ≠ 0#32 := by
  rcases h with rfl | rfl <;> decide
theorem witness_AcceptedInitialize (s : State)
    (h : s = { idle28 with program := [.transaction 0x800000002#36] } ∨ s = { idle32 with enc := .uninit, program := [.transaction 0x800000002#36] }) :
    s.turns = [] ∧ s.queue = [] ∧ s.program = .transaction 0x800000002#36 :: [] ∧ s.cfgValid = true := by
  rcases h with rfl | rfl <;> decide
theorem witness_WaitIdle : nextTurn { busy32 with turns := [.host], program := [.waitIdle] } = .host ∧
    goesTo (step { busy32 with turns := [.host], program := [.waitIdle] }) { busy32 with program := [.waitIdle], results := [0x107#32] } ∧
    goesTo (step { idle32 with program := [.waitIdle] }) { idle32 with results := [0x106#32] } := by decide
/-- Addresses of each clause, at the edges, whatever the base is. -/
theorem witness_ByteAddresses : Config.k3ddsBase + 28 = Config.k3ddsBase + 4 * (7#3).toNat ∧
    (Config.k3ddsBase ≤ Config.k3ddsBase + 31 ∧ Config.k3ddsBase + 31 < Config.k3ddsBase + 32 ∧
      (Config.k3ddsBase + 31 - Config.k3ddsBase) % 4 ≠ 0) ∧
    Config.k3ddsBase + 32 ≤ Config.k3ddsBase + 32 := by
  refine ⟨rfl, ⟨?_, ?_, ?_⟩, ?_⟩ <;> omega
theorem witness_SafeHost : ({ busy32 with program := [.waitIdle, .transaction 0x800000015#36] } : State).SafeHost := by
  unfold State.SafeHost; decide

/-- The first and the last register of a byte-addressed host. -/
theorem witness_SafeHost_byteAccess : (HostOp.byteAccess true Config.k3ddsBase 0#32).safe = true ∧
    (HostOp.byteAccess false (Config.k3ddsBase + 28) 0#32).safe = true := by
  unfold HostOp.safe
  constructor <;> simp
theorem witness_Streams : (Variant.v32m = .v32 ∨ Variant.v32m = .v32m) ∧
    (sampleBits true true (busEvents (setf32 .v32m 0x147AE147#32 true))).take 4 = [true, true, true, false] := by decide

/-! The invariant is met by the power-on state, by an idle configured block, and in the middle of programs of both families. -/

/-- `V28` with a whole frame sent, before its commit. -/
def beforeCommit28 : State :=
  { idle28 with trace := List.replicate 16 (.data false), queue := [.load true, .load false] }

/-- `V32` with a whole stream sent, before its commit. -/
def beforeCommit32 : State :=
  { idle32 with trace := List.replicate 40 (.data false), queue := [.load true, .load false] }

/-- `V32` at the start pulse of INIT32. -/
def startPulse32 : State :=
  { idle32 with trace := [.clk true, .clk false], queue := fromStartPulse .v32 }

/-- A configured block before the last micro-step of INITIALIZE. -/
def lastMicroStep : State := { idle32 with enc := .uninit, queue := [.setReady] }

theorem inv_beforeCommit28 : beforeCommit28.Inv := by
  unfold State.Inv State.configOk State.linesOk State.traceOk State.framesOk; decide
theorem inv_beforeCommit32 : beforeCommit32.Inv := by
  unfold State.Inv State.configOk State.linesOk State.traceOk State.framesOk; decide
theorem inv_startPulse32 : startPulse32.Inv := by
  unfold State.Inv State.configOk State.linesOk State.traceOk
  refine ⟨⟨by decide, by decide, by decide⟩, by decide, by decide, ?_⟩
  show commitsWhole .v32 0 (fromStartPulse .v32) = true
  have h : atStartPulse .v32 (fromStartPulse .v32) = true := by simp [atStartPulse]
  show ((0 == 40 || (0 == 0 && atStartPulse .v32 (fromStartPulse .v32))) && commitsWhole .v32 0 (fromStartPulse .v32).tail) = true
  rw [h]
  decide
theorem inv_lastMicroStep : lastMicroStep.Inv := by
  unfold State.Inv State.configOk State.linesOk State.traceOk State.framesOk; decide

theorem witness_NoPartialFrame (s : State) (h : s = beforeCommit28 ∨ s = beforeCommit32 ∨ s = startPulse32) :
    s.Inv ∧ ∃ t, step s = .next t ∧ t.trace = s.trace ++ [.load true] := by
  rcases h with rfl | rfl | rfl
  · exact ⟨inv_beforeCommit28, _, rfl, rfl⟩
  · exact ⟨inv_beforeCommit32, _, rfl, rfl⟩
  · exact ⟨inv_startPulse32, _, rfl, rfl⟩

/-- A `V28` frame about to send its last bit, a 1. -/
def beforeLastBit28 : State :=
  { idle28 with
    trace := List.replicate 15 (.data false)
    queue := [.data true, .clk true, .clk false, .load true, .load false] }

/-- The same frame about to repeat the level the data line has: a `Data` micro-step that changes no level (R202). -/
def beforeRepeatedBit28 : State := { beforeLastBit28 with queue := [.data false, .clk true, .clk false, .load true, .load false] }

theorem witness_DataLine_repeated : beforeRepeatedBit28.Inv ∧ nextTurn beforeRepeatedBit28 = .sequencer ∧
    (∃ q, beforeRepeatedBit28.queue = .data false :: q) ∧ ∃ t, step beforeRepeatedBit28 = .next t ∧ t.lineData = beforeRepeatedBit28.lineData := by
  refine ⟨?_, by decide, ⟨_, rfl⟩, _, rfl, by decide⟩
  unfold State.Inv State.configOk State.linesOk State.traceOk State.framesOk; decide
theorem witness_DataLine : beforeLastBit28.Inv ∧ nextTurn beforeLastBit28 ≠ .rst ∧
    ∃ t, step beforeLastBit28 = .next t ∧ t.lineData ≠ beforeLastBit28.lineData := by
  refine ⟨?_, by decide, _, rfl, by decide⟩
  unfold State.Inv State.configOk State.linesOk State.traceOk State.framesOk; decide
theorem witness_ClockAndLoadLines : (∃ q, beforeCommit28.queue = .load true :: q) ∧
    (∃ q, ({ beforeLastBit28 with trace := List.replicate 16 (.data false), queue := beforeLastBit28.queue.tail } : State).queue = .clk true :: q) ∧
    State.reset.queue = [] := ⟨⟨_, rfl⟩, ⟨_, rfl⟩, rfl⟩
theorem witness_ConfigurationIsFixed : idle32.cfgValid = true ∧ nextTurn idle32 ≠ .rst ∧ goesTo (step idle32) idle32 ∧
    nextTurn { State.reset with queue := [.quant 0#32] } = .sequencer ∧
    goesTo (runTransaction 0x800000001#36 idle32) { idle32 with err := .configured } := by decide
theorem witness_EncoderBecomesReady : lastMicroStep.Inv ∧ goesTo (step lastMicroStep) { idle32 with enc := .ready } ∧
    goesTo (step { idle32 with turns := [.rst] }) { State.reset with trace := [.reset] } ∧
    nextTurn lastMicroStep = .sequencer ∧ lastMicroStep.queue = [.setReady] ∧ nextTurn { idle32 with turns := [.rst] } = .rst ∧
    ∃ t, exec .cmdInitialize idle32 = .next t ∧ .setReady ∈ t.queue :=
  ⟨inv_lastMicroStep, by decide, by decide, by decide, rfl, by decide, _, rfl, List.mem_append_right _ (List.mem_singleton.mpr rfl)⟩
theorem witness_OnlyMicroSteps : goesTo (step { State.reset with queue := [.quant 5#32] }) { State.reset with word := 5#32 } ∧
    nextTurn State.reset = .host ∧ goesTo (step State.reset) State.reset := by decide
theorem witness_OnlyCommandWrites : goesTo (runTransaction 0xA00000007#36 busy32) { busy32 with freq := 7#32 } ∧ (0xA00000007#36).extractLsb' 32 4 ≠ 8#4 ∧
    nextTurn busy32 = .sequencer := by decide
/-- The answers to a read of STATUS differ in bits 9:8 alone. -/
theorem witness_V32AndV32M : alikeUpToVariant { idle32 with results := [0x106#32] } { idle32 with cfgVariant := .v32m, results := [0x206#32] } ∧
    Instr.rdFreq ≠ .rdStatus := by
  unfold alikeUpToVariant sameFamily; decide
/-- Answers that differ in another bit are not alike. -/
theorem test_maskVar : maskVar 0x106#32 = maskVar 0x206#32 ∧ maskVar 0x106#32 ≠ maskVar 0x506#32 ∧ maskVar 0x106#32 ≠ maskVar 0x107#32 := by decide
/-- A stopping step: an access of a byte-addressed host outside the block's registers. -/
theorem witness_V32AndV32M_fault : step { idle32 with program := [.byteAccess false (Config.k3ddsBase + 32) 0#32] } =
    .fault (.unmappedByteAddress (Config.k3ddsBase + 32)) := by
  simp [step, takeTurn, nextTurn, hostTurn, State.setTurns, idle32, State.reset, State.busy, runByteAccess, adapt]
theorem witness_RunningProgram : alikeUpToStaging busy32 { busy32 with freq := 7#32, clkmul := true, err := .busy } ∧ busy32.queue ≠ [] := by
  unfold alikeUpToStaging; decide
theorem witness_EveryStep : State.reset.Inv ∧ goesTo (step State.reset) State.reset := by
  unfold State.Inv State.configOk State.linesOk State.traceOk State.framesOk; decide

end Sys2Proof.Machine.Tests
end

section
/-! PROOFS. R4: `V32` and `V32M` behave alike (O58). A state and the same state with another variant code and other answers are taken through
every operation: most ignore both, the frame programs see only the family, and a read of STATUS shows the code in bits 9:8 alone. -/

namespace Sys2Proof.Machine

/-! ### The same state under another variant code -/

/-- The state with another variant code and another record of the host's answers. -/
def State.relabel (s : State) (v : Variant) (answers : List Word) : State := { s with cfgVariant := v, results := answers }

/-- An operation that neither reads nor writes the variant code and the host's answers. -/
def IgnoresLabels (f : State → State) : Prop := ∀ s v answers, f (s.relabel v answers) = (f s).relabel v answers

theorem alikeUpToVariant_iff {s s' : State} : alikeUpToVariant s s' ↔
    ∃ v answers, sameFamily s.cfgVariant v ∧ s.results.map maskVar = answers.map maskVar ∧ s' = s.relabel v answers := by
  constructor
  · rintro ⟨hv, ha, hs⟩
    exact ⟨_, _, hv, ha, hs⟩
  · rintro ⟨v, answers, hv, ha, rfl⟩
    exact ⟨hv, ha, rfl⟩

/-- Such an operation keeps the labels: it commutes with putting a state's own labels on it. -/
theorem IgnoresLabels.keeps {f : State → State} (hf : IgnoresLabels f) (s : State) :
    (f s).cfgVariant = s.cfgVariant ∧ (f s).results = s.results := by
  have h : f s = (f s).relabel s.cfgVariant s.results := hf s s.cfgVariant s.results
  rw [h]
  exact ⟨rfl, rfl⟩

theorem alikeUpToVariant.map {f : State → State} {s s' : State} (h : alikeUpToVariant s s') (hf : IgnoresLabels f) :
    alikeUpToVariant (f s) (f s') := by
  obtain ⟨v, answers, hv, ha, rfl⟩ := alikeUpToVariant_iff.1 h
  obtain ⟨hfv, hfr⟩ := hf.keeps s
  exact alikeUpToVariant_iff.2 ⟨v, answers, hfv ▸ hv, hfr ▸ ha, hf s v answers⟩

/-- What is read without looking at the labels is the same of alike states. -/
theorem alikeUpToVariant.read_eq {α : Type} {s s' : State} (h : alikeUpToVariant s s') (read : State → α)
    (hread : ∀ v answers, read (s.relabel v answers) = read s) : read s' = read s := by
  obtain ⟨v, answers, _, _, rfl⟩ := alikeUpToVariant_iff.1 h
  exact hread v answers

theorem ignoresLabels_perform (m : MicroStep) : IgnoresLabels fun s => s.perform m := by
  intro s v answers
  cases m <;> rfl

theorem ignoresLabels_sequencerStep : IgnoresLabels State.sequencerStep := by
  intro s v answers
  rcases sequencerStep_cases s with ⟨hq, hs⟩ | ⟨m, rest, hq, hs⟩
  · rw [hs, sequencerStep_nil (s.relabel v answers) hq]
  · rw [hs, sequencerStep_cons (s.relabel v answers) hq]
    exact congrArg (State.setQueue · rest) (ignoresLabels_perform m s v answers)

/-! ### What the family decides -/

theorem sameFamily_refl (v : Variant) : sameFamily v v := Iff.rfl

/-- A function that does not tell `V32` from `V32M` is constant on each family. -/
theorem sameFamily.apply_eq {α : Type} {a b : Variant} (h : sameFamily a b) (f : Variant → α) (hf : f .v32 = f .v32m) : f a = f b := by
  cases a with
  | v28 => rw [h.1 rfl]
  | v32 =>
    cases b with
    | v28 => cases h.2 rfl
    | v32 => rfl
    | v32m => exact hf
  | v32m =>
    cases b with
    | v28 => cases h.2 rfl
    | v32 => exact hf.symm
    | v32m => rfl

theorem queueInit_relabel {s : State} {v : Variant} (answers : List Word) (h : sameFamily s.cfgVariant v) :
    (s.relabel v answers).queueInit = s.queueInit.relabel v answers := by
  have hp := h.apply_eq (initProgram Config.rom28 Config.initModeByte) rfl
  unfold State.queueInit
  rw [hp]
  rfl

theorem setfWord_relabel {s : State} {v : Variant} (answers : List Word) (h : sameFamily s.cfgVariant v) :
    (s.relabel v answers).setfWord = s.setfWord := by
  have hn := h.apply_eq accumulatorBits rfl
  unfold State.setfWord
  rw [hn]
  rfl

theorem queueSetf_relabel {s : State} {v : Variant} (answers : List Word) (h : sameFamily s.cfgVariant v) :
    (s.relabel v answers).queueSetf = s.queueSetf.relabel v answers := by
  have hp := h.apply_eq (setfProgram Config.rom28 s.setfWord s.clkmul s.wave) rfl
  unfold State.queueSetf
  rw [setfWord_relabel answers h, hp]
  rfl

theorem alikeUpToVariant.queueInit {s s' : State} (h : alikeUpToVariant s s') : alikeUpToVariant s.queueInit s'.queueInit := by
  obtain ⟨v, answers, hv, ha, rfl⟩ := alikeUpToVariant_iff.1 h
  exact alikeUpToVariant_iff.2 ⟨v, answers, hv, ha, queueInit_relabel answers hv⟩

theorem alikeUpToVariant.queueSetf {s s' : State} (h : alikeUpToVariant s s') : alikeUpToVariant s.queueSetf s'.queueSetf := by
  obtain ⟨v, answers, hv, ha, rfl⟩ := alikeUpToVariant_iff.1 h
  exact alikeUpToVariant_iff.2 ⟨v, answers, hv, ha, queueSetf_relabel answers hv⟩

/-! ### The operations that set the variant code -/

theorem latchConfig_none {s : State} (h : selVariant s.sel = none) : s.latchConfig = s := by
  simp [State.latchConfig, h]

/-- Both states latch the same selector, whatever their codes were. -/
theorem alikeUpToVariant.latchConfig {s s' : State} (h : alikeUpToVariant s s') : alikeUpToVariant s.latchConfig s'.latchConfig := by
  obtain ⟨v, answers, hv, ha, rfl⟩ := alikeUpToVariant_iff.1 h
  cases hsel : selVariant s.sel with
  | none =>
    rw [latchConfig_none hsel, latchConfig_none (s := s.relabel v answers) hsel]
    exact h
  | some w =>
    rw [latchConfig_some s hsel, latchConfig_some (s.relabel v answers) hsel]
    exact ⟨sameFamily_refl w, ha, rfl⟩

theorem alikeUpToVariant.resetInput {s s' : State} (h : alikeUpToVariant s s') : alikeUpToVariant s.resetInput s'.resetInput := by
  obtain ⟨v, answers, hv, ha, rfl⟩ := alikeUpToVariant_iff.1 h
  exact ⟨sameFamily_refl _, ha, rfl⟩

/-! ### What the host is answered -/

/-- STATUS shows the variant code in bits 9:8 and nowhere else (10_state.md R28). -/
theorem status_relabel_getLsbD (s : State) (v : Variant) (answers : List Word) {k : Nat} (h8 : k ≠ 8) (h9 : k ≠ 9) :
    (s.relabel v answers).status.getLsbD k = s.status.getLsbD k := by
  simp only [State.status, BitVec.getLsbD_setWidth, BitVec.getLsbD_append]
  have hk : k - 1 - 1 - 1 - 1 < 4 ∨ 2 ≤ k - 1 - 1 - 1 - 1 - 4 := by omega
  rcases hk with hlow | htop
  · simp only [if_pos hlow]
    rfl
  · simp only [BitVec.getLsbD_of_ge _ _ htop]
    rfl

theorem maskVar_eq_of_getLsbD {a b : Word} (h : ∀ k, k ≠ 8 → k ≠ 9 → a.getLsbD k = b.getLsbD k) : maskVar a = maskVar b := by
  apply BitVec.eq_of_getLsbD_eq
  intro k _
  rw [maskVar, maskVar, BitVec.getLsbD_and, BitVec.getLsbD_and]
  by_cases h8 : k = 8
  · subst h8
    simp
  · by_cases h9 : k = 9
    · subst h9
      simp
    · rw [h k h8 h9]

theorem readReg_relabel (s : State) (v : Variant) (answers : List Word) {r : Reg} (h : r ≠ .status) :
    (s.relabel v answers).readReg r = s.readReg r := by
  cases r with
  | status => exact absurd rfl h
  | _ => rfl

theorem maskVar_readReg_relabel (s : State) (v : Variant) (answers : List Word) (r : Reg) :
    maskVar (s.readReg r) = maskVar ((s.relabel v answers).readReg r) := by
  by_cases hr : r = .status
  · subst hr
    exact maskVar_eq_of_getLsbD fun k h8 h9 => (status_relabel_getLsbD s v answers h8 h9).symm
  · rw [readReg_relabel s v answers hr]

theorem alikeUpToVariant.hostRead {s s' : State} (h : alikeUpToVariant s s') (r : Reg) :
    alikeUpToVariant (s.hostRead r) (s'.hostRead r) := by
  obtain ⟨v, answers, hv, ha, rfl⟩ := alikeUpToVariant_iff.1 h
  refine ⟨hv, ?_, rfl⟩
  rw [State.hostRead_results, State.hostRead_results, List.map_append, List.map_append, ha]
  simp [maskVar_readReg_relabel s v answers r, State.relabel]

/-! ### Commands and instructions -/

theorem alikeUpToVariant.command {s s' : State} (h : alikeUpToVariant s s') (w : Word) {effect : State → State}
    (heffect : alikeUpToVariant (effect s) (effect s')) : alikeUpToVariant (s.command w effect) (s'.command w effect) := by
  have hcheck : s'.acceptCheck w = s.acceptCheck w := h.read_eq (State.acceptCheck · w) fun _ _ => rfl
  rcases command_cases s w effect with ⟨e, hs, hc⟩ | ⟨hs, hc⟩
  · rw [hc, command_rejected s' (hcheck.trans hs)]
    exact h.map (f := (State.reject · e)) fun _ _ _ => rfl
  · rw [hc, command_accepted s' (hcheck.trans hs)]
    exact heffect.map (f := (State.setErr · .none)) fun _ _ _ => rfl

theorem alikeUpToVariant.queueQuantize {s s' : State} (h : alikeUpToVariant s s') (n : Nat) :
    alikeUpToVariant (s.queueQuantize n) (s'.queueQuantize n) :=
  h.map (f := (State.queueQuantize · n)) fun _ _ _ => rfl

/-- Two outcomes that are the same stop, or that go on in alike states. -/
inductive alikeOutcomes : Host.Outcome State Fault Refusal → Host.Outcome State Fault Refusal → Prop
  | next {t t' : State} (h : alikeUpToVariant t t') : alikeOutcomes (.next t) (.next t')
  | fault (f : Fault) : alikeOutcomes (.fault f) (.fault f)
  | refused (r : Refusal) : alikeOutcomes (.refused r) (.refused r)

theorem alikeOutcomes.same_kind {o o' : Host.Outcome State Fault Refusal} (h : alikeOutcomes o o') :
    (∀ t, o = .next t → ∃ t', o' = .next t' ∧ alikeUpToVariant t t') ∧
    (∀ f, o = .fault f → o' = .fault f) ∧ (∀ r, o = .refused r → o' = .refused r) := by
  cases h with
  | next halike =>
    refine ⟨fun t ht => ?_, fun f => ?_, fun r => ?_⟩
    · cases ht
      exact ⟨_, rfl, halike⟩
    · rintro ⟨⟩
    · rintro ⟨⟩
  | fault f =>
    refine ⟨fun t => ?_, fun _ hf => hf, fun r => ?_⟩
    · rintro ⟨⟩
    · rintro ⟨⟩
  | refused r =>
    refine ⟨fun t => ?_, fun f => ?_, fun _ hr => hr⟩
    · rintro ⟨⟩
    · rintro ⟨⟩

theorem exec_alike {s s' : State} (h : alikeUpToVariant s s') (i : Instr) : alikeOutcomes (exec i s) (exec i s') := by
  cases i with
  | rdCmd => exact .next (h.hostRead .cmd)
  | rdStatus => exact .next (h.hostRead .status)
  | rdFreq => exact .next (h.hostRead .freq)
  | rdRefclk => exact .next (h.hostRead .refclk)
  | rdCal => exact .next (h.hostRead .cal)
  | rdOptions => exact .next (h.hostRead .options)
  | rdVariant => exact .next (h.hostRead .variant)
  | rdWord => exact .next (h.hostRead .word)
  | wrStatus v => exact .next h
  | wrFreq v => exact .next (h.map (f := (State.setFreq · v)) fun _ _ _ => rfl)
  | wrRefclk v => exact .next (h.map (f := (State.setRefclk · v)) fun _ _ _ => rfl)
  | wrCal v => exact .next (h.map (f := (State.setCal · v)) fun _ _ _ => rfl)
  | wrOptions v => exact .next (h.map (f := (State.setOptions · v)) fun _ _ _ => rfl)
  | wrVariant v => exact .next (h.map (f := (State.setVariant · v)) fun _ _ _ => rfl)
  | wrWord v => exact .next h
  | cmdNop => exact .next (h.command _ h)
  | cmdConfigure => exact .next (h.command _ h.latchConfig)
  | cmdInitialize => exact .next (h.command _ h.queueInit)
  | cmdSetFrequency => exact .next (h.command _ h.queueSetf)
  | cmdQuantize28 => exact .next (h.command _ (h.queueQuantize 28))
  | cmdQuantize32 => exact .next (h.command _ (h.queueQuantize 32))

/-- The register whose value an instruction gives the host (43_host_access.md R230). -/
def registerRead : Instr → Option Reg
  | .rdCmd => some .cmd
  | .rdStatus => some .status
  | .rdFreq => some .freq
  | .rdRefclk => some .refclk
  | .rdCal => some .cal
  | .rdOptions => some .options
  | .rdVariant => some .variant
  | .rdWord => some .word
  | _ => none

/-- What an instruction answers the host in a state. -/
def State.answersTo (s : State) (i : Instr) : List Word := (registerRead i).toList.map s.readReg

theorem answersTo_relabel (s : State) (v : Variant) (answers : List Word) {i : Instr} (h : i ≠ .rdStatus) :
    (s.relabel v answers).answersTo i = s.answersTo i := by
  cases i with
  | rdStatus => exact absurd rfl h
  | _ => rfl

theorem command_results (s : State) (w : Word) {effect : State → State} (h : (effect s).results = s.results) :
    (s.command w effect).results = s.results := by
  rcases command_cases s w effect with ⟨e, _, hc⟩ | ⟨_, hc⟩
  · rw [hc, State.reject_results]
  · rw [hc, State.setErr_results, h]

theorem exec_results (s : State) (i : Instr) : ∃ u, exec i s = .next u ∧ u.results = s.results ++ s.answersTo i := by
  have silent : s.results = s.results ++ [] := (List.append_nil _).symm
  cases i with
  | rdCmd => exact ⟨_, rfl, rfl⟩
  | rdStatus => exact ⟨_, rfl, rfl⟩
  | rdFreq => exact ⟨_, rfl, rfl⟩
  | rdRefclk => exact ⟨_, rfl, rfl⟩
  | rdCal => exact ⟨_, rfl, rfl⟩
  | rdOptions => exact ⟨_, rfl, rfl⟩
  | rdVariant => exact ⟨_, rfl, rfl⟩
  | rdWord => exact ⟨_, rfl, rfl⟩
  | wrStatus v => exact ⟨_, rfl, silent⟩
  | wrFreq v => exact ⟨_, rfl, silent⟩
  | wrRefclk v => exact ⟨_, rfl, silent⟩
  | wrCal v => exact ⟨_, rfl, silent⟩
  | wrOptions v => exact ⟨_, rfl, silent⟩
  | wrVariant v => exact ⟨_, rfl, silent⟩
  | wrWord v => exact ⟨_, rfl, silent⟩
  | cmdNop => exact ⟨_, rfl, (command_results s _ rfl).trans silent⟩
  | cmdConfigure => exact ⟨_, rfl, (command_results s _ s.latchConfig_results).trans silent⟩
  | cmdInitialize => exact ⟨_, rfl, (command_results s _ rfl).trans silent⟩
  | cmdSetFrequency => exact ⟨_, rfl, (command_results s _ rfl).trans silent⟩
  | cmdQuantize28 => exact ⟨_, rfl, (command_results s _ rfl).trans silent⟩
  | cmdQuantize32 => exact ⟨_, rfl, (command_results s _ rfl).trans silent⟩

/-! ### The host's turn and a step -/

theorem runTransaction_alike {s s' : State} (h : alikeUpToVariant s s') (t : Transaction) :
    alikeOutcomes (runTransaction t s) (runTransaction t s') := by
  unfold runTransaction
  cases decode t with
  | ok i => exact exec_alike h i
  | error e => cases e <;> exact .next (h.command _ h)

theorem runByteAccess_alike {s s' : State} (h : alikeUpToVariant s s') (write : Bool) (addr : Nat) (data : Word) :
    alikeOutcomes (runByteAccess write addr data s) (runByteAccess write addr data s') := by
  unfold runByteAccess
  cases adapt Config.k3ddsBase addr with
  | index i => exact runTransaction_alike h _
  | misaligned => exact .refused _
  | unmapped => exact .fault _

theorem alikeUpToVariant.setProgram {s s' : State} (h : alikeUpToVariant s s') (p : List HostOp) :
    alikeUpToVariant (s.setProgram p) (s'.setProgram p) :=
  h.map (f := (State.setProgram · p)) fun _ _ _ => rfl

theorem alikeUpToVariant.status_getLsbD {s s' : State} (h : alikeUpToVariant s s') {k : Nat} (h8 : k ≠ 8) (h9 : k ≠ 9) :
    s.status.getLsbD k = s'.status.getLsbD k :=
  (h.read_eq (fun t => t.status.getLsbD k) fun v answers => status_relabel_getLsbD s v answers h8 h9).symm

/-- `wait_idle` looks at bit 0 of STATUS, which does not show the variant code. -/
theorem alikeUpToVariant.waitIdleTurn {s s' : State} (h : alikeUpToVariant s s') (rest : List HostOp) :
    alikeUpToVariant (waitIdleTurn rest s) (waitIdleTurn rest s') := by
  have hbusy := h.status_getLsbD (k := 0) (by decide) (by decide)
  unfold Machine.waitIdleTurn
  rw [← hbusy]
  split
  · exact h.hostRead .status
  · exact (h.hostRead .status).setProgram rest

theorem hostTurn_alike {s s' : State} (h : alikeUpToVariant s s') : alikeOutcomes (hostTurn s) (hostTurn s') := by
  have hprogram : s'.program = s.program := h.read_eq State.program fun _ _ => rfl
  unfold hostTurn
  rw [hprogram]
  cases s.program with
  | nil => exact .next h
  | cons op rest =>
    cases op with
    | transaction t => exact runTransaction_alike (h.setProgram rest) t
    | byteAccess write addr data => exact runByteAccess_alike (h.setProgram rest) write addr data
    | waitIdle => exact .next (h.waitIdleTurn rest)

theorem takeTurn_alike {s s' : State} (h : alikeUpToVariant s s') (turn : Turn) :
    alikeOutcomes (takeTurn turn s) (takeTurn turn s') := by
  cases turn with
  | host => exact hostTurn_alike h
  | sequencer => exact .next (h.map ignoresLabels_sequencerStep)
  | rst => exact .next h.resetInput

theorem step_alike {s s' : State} (h : alikeUpToVariant s s') : alikeOutcomes (step s) (step s') := by
  have hused : alikeUpToVariant (s.setTurns s.turns.tail) (s'.setTurns s'.turns.tail) :=
    h.map (f := fun t => t.setTurns t.turns.tail) fun _ _ _ => rfl
  have hturn : nextTurn s' = nextTurn s := h.read_eq nextTurn fun _ _ => rfl
  unfold step
  rw [hturn]
  exact takeTurn_alike hused _

theorem exec_answers_alike {s s' : State} (h : alikeUpToVariant s s') {i : Instr} (hi : i ≠ .rdStatus) :
    ∃ u u' answers, exec i s = .next u ∧ exec i s' = .next u' ∧
      u.results = s.results ++ answers ∧ u'.results = s'.results ++ answers := by
  obtain ⟨u, hu, hr⟩ := exec_results s i
  obtain ⟨u', hu', hr'⟩ := exec_results s' i
  have hsame : s'.answersTo i = s.answersTo i := h.read_eq (State.answersTo · i) fun v answers => answersTo_relabel s v answers hi
  exact ⟨u, u', s.answersTo i, hu, hu', hr, hsame ▸ hr'⟩

/-- Settles O58: every operation takes alike states to alike states, so a step does; only a read of STATUS answers with the code. -/
theorem v32AndV32MBehaveAlike : Obligations.V32AndV32MBehaveAlike := by
  unfold Obligations.V32AndV32MBehaveAlike
  intro s s' h
  obtain ⟨hnext, hfault, hrefused⟩ := (step_alike h).same_kind
  exact ⟨hnext, hfault, hrefused, fun i hi => exec_answers_alike h hi, fun k h8 h9 => h.status_getLsbD h8 h9⟩

end Sys2Proof.Machine
end

section
/-! PROOFS. Family 10_state.md: what the sequencer, the host and a reset can change (O37, O40, O41, O54, O56, O57), the fields of STATUS (O7),
and the invariant at power-on (O49). -/

namespace Sys2Proof.Machine

/-! ### The configuration latch (R30) -/

/-- The configuration latch: `cfg_valid`, `cfg_variant` and `cfg_refclk`. -/
def State.latch (s : State) : Bool × Variant × Word := (s.cfgValid, s.cfgVariant, s.cfgRefclk)

theorem latch_eq_iff (s t : State) :
    t.latch = s.latch ↔ t.cfgValid = s.cfgValid ∧ t.cfgVariant = s.cfgVariant ∧ t.cfgRefclk = s.cfgRefclk := by
  simp [State.latch]

theorem command_latch (s : State) (w : Word) {effect : State → State} (h : (effect s).latch = s.latch) :
    (s.command w effect).latch = s.latch := by
  rcases command_cases s w effect with ⟨e, _, hc⟩ | ⟨_, hc⟩
  · rw [hc]
    rfl
  · rw [hc]
    exact h

theorem exec_latch (s : State) {i : Instr} (h : i ≠ .cmdConfigure) : ∃ u, exec i s = .next u ∧ u.latch = s.latch := by
  cases i with
  | cmdConfigure => exact absurd rfl h
  | cmdNop => exact ⟨_, rfl, command_latch s _ rfl⟩
  | cmdInitialize => exact ⟨_, rfl, command_latch s _ rfl⟩
  | cmdSetFrequency => exact ⟨_, rfl, command_latch s _ rfl⟩
  | cmdQuantize28 => exact ⟨_, rfl, command_latch s _ rfl⟩
  | cmdQuantize32 => exact ⟨_, rfl, command_latch s _ rfl⟩
  | _ => exact ⟨_, rfl, rfl⟩

/-- The one host effect that writes the latch is an accepted CONFIGURE: it finds the latch invalid and clears `err`. -/
theorem HostEffect.latch {s u : State} (h : HostEffect s u) : u.latch = s.latch ∨ (s.cfgValid = false ∧ u.err = .none) := by
  cases h with
  | configured _ hc _ _ _ => exact .inr ⟨hc, rfl⟩
  | _ => exact .inl rfl

/-! ### The transactions that are commands (R80, R81) -/

theorem decodeRead_ne_cmdConfigure (r : Reg) : decodeRead r ≠ .cmdConfigure := by
  cases r <;> simp [decodeRead]

/-- A row's command word has no reserved bit, so it is one of sixteen; only 1 is CONFIGURE (R85). -/
theorem eq_of_decodeCommand_configure {v : Word} (h : decodeCommand v = .ok .cmdConfigure) : v = 1#32 := by
  have hreserved : cmdReserved v = 0#28 := by
    by_contra hne
    simp [decodeCommand, reservedEncoding, hne] at h
  have hlow : ∀ n < 16, decodeCommand (BitVec.ofNat 32 n) = .ok .cmdConfigure → n = 1 := by decide
  have hv : BitVec.ofNat 32 v.toNat = v := by simp
  have hone := hlow v.toNat (lt_sixteen_of_unreserved hreserved) (hv.symm ▸ h)
  rw [← hv, hone]

theorem eq_zero_of_ofIndex_cmd {i : BitVec 3} (h : Reg.ofIndex i = .cmd) : i = 0#3 := by
  rw [← Reg.index_ofIndex i, h]
  rfl

theorem eq_of_decode_configure {t : Transaction} (h : decode t = .ok .cmdConfigure) : t = 0x800000001#36 := by
  unfold decode at h
  cases hw : writeEnable t with
  | false =>
    rw [hw] at h
    exact absurd (Except.ok.inj h) (decodeRead_ne_cmdConfigure _)
  | true =>
    rw [hw] at h
    cases hr : Reg.ofIndex (regIndex t) with
    | cmd =>
      rw [hr] at h
      rw [← transaction_fields t, hw, eq_zero_of_ofIndex_cmd hr, eq_of_decodeCommand_configure h]
      rfl
    | _ =>
      rw [hr] at h
      cases h

theorem runTransaction_latch (s : State) {t : Transaction} (h : t ≠ 0x800000001#36) :
    ∃ u, runTransaction t s = .next u ∧ u.latch = s.latch := by
  unfold runTransaction
  cases hd : decode t with
  | ok i => exact exec_latch s fun hi => h (eq_of_decode_configure (hi ▸ hd))
  | error e => cases e <;> exact ⟨_, rfl, command_latch s _ rfl⟩

/-- The top four bits of a transaction, `{WE, IDX}`, are 8 for a write to register 0. -/
theorem topBits_of_write_cmd {t : Transaction} (hw : writeEnable t = true) (hi : regIndex t = 0#3) : t.extractLsb' 32 4 = 8#4 := by
  rw [← transaction_fields t, hw, hi]
  apply BitVec.eq_of_getLsbD_eq
  intro k hk
  rw [BitVec.getLsbD_extractLsb', transaction_getLsbD]
  interval_cases k <;> simp

/-- A transaction that is no write to CMD keeps `err` and the queue (R230, R231). -/
theorem runTransaction_err_queue (s : State) {t : Transaction} (h : t.extractLsb' 32 4 ≠ 8#4) :
    ∃ u, runTransaction t s = .next u ∧ u.err = s.err ∧ u.queue = s.queue := by
  unfold runTransaction decode
  cases hw : writeEnable t with
  | false => cases Reg.ofIndex (regIndex t) <;> exact ⟨_, rfl, rfl, rfl⟩
  | true =>
    cases hr : Reg.ofIndex (regIndex t) with
    | cmd => exact absurd (topBits_of_write_cmd hw (eq_zero_of_ofIndex_cmd hr)) h
    | _ => exact ⟨_, rfl, rfl, rfl⟩

/-! ### What the sequencer changes (R35, R210) -/

theorem perform_word {s : State} {m : MicroStep} (h : (s.perform m).word ≠ s.word) : m = .quant (s.perform m).word := by
  cases m with
  | quant w => rfl
  | _ => exact absurd rfl h

/-- What every micro-step and the dropping of it leave alone, a sequencer step leaves alone. -/
theorem sequencerStep_keeps {α : Type} (read : State → α)
    (hread : ∀ s m rest, read ((State.perform s m).setQueue rest) = read s) (s : State) : read s.sequencerStep = read s := by
  rcases sequencerStep_cases s with ⟨_, hs⟩ | ⟨m, rest, _, hs⟩
  · rw [hs]
  · rw [hs, hread]

theorem sequencerStep_latch (s : State) : s.sequencerStep.latch = s.latch :=
  sequencerStep_keeps State.latch (fun _ m _ => by cases m <;> rfl) s

theorem sequencerStep_err (s : State) : s.sequencerStep.err = s.err :=
  sequencerStep_keeps State.err (fun _ m _ => by cases m <;> rfl) s

theorem sequencerStep_queue (s : State) : s.sequencerStep.queue = s.queue.tail := by
  rcases sequencerStep_cases s with ⟨hq, hs⟩ | ⟨m, rest, hq, hs⟩
  · rw [hs, hq]
    rfl
  · rw [hs, hq]
    rfl

theorem sequencerStep_word {s : State} (h : s.sequencerStep.word ≠ s.word) :
    s.queue = .quant s.sequencerStep.word :: s.sequencerStep.queue := by
  rcases sequencerStep_cases s with ⟨_, hs⟩ | ⟨m, rest, hq, hs⟩
  · exact absurd (congrArg State.word hs) h
  · rw [hs] at h ⊢
    rw [hq]
    exact congrArg (· :: rest) (perform_word h)

/-- Performed and pending events together stay the same (R210). -/
theorem sequencerStep_events (s : State) :
    s.sequencerStep.trace ++ busEvents s.sequencerStep.queue = s.trace ++ busEvents s.queue := by
  rcases sequencerStep_cases s with ⟨_, hs⟩ | ⟨m, rest, hq, hs⟩
  · rw [hs]
  · obtain ⟨htrace, hqueue, -, -⟩ := perform_setQueue s m rest
    rw [hs, htrace, hqueue, hq, busEvents_cons m rest, List.append_assoc]

theorem step_of_sequencer {s : State} (h : nextTurn s = .sequencer) :
    step s = .next (s.setTurns s.turns.tail).sequencerStep := by
  rw [step, h]
  rfl

theorem step_performs {s : State} {m : MicroStep} {q : List MicroStep} (h : nextTurn s = .sequencer) (hq : s.queue = m :: q) :
    step s = .next (((s.setTurns s.turns.tail).perform m).setQueue q) := by
  rw [step_of_sequencer h, sequencerStep_cons (s.setTurns s.turns.tail) hq]

/-! ### The fields of STATUS (R28) -/

theorem busy_eq_decide (s : State) : s.busy = decide (s.queue ≠ []) := by
  rw [Bool.eq_iff_iff, busy_eq_true_iff, decide_eq_true_iff]

/-- The fields of STATUS from bit 0 up. -/
theorem status_getLsbD (s : State) (k : Nat) : s.status.getLsbD k =
    if k = 0 then s.busy else if k = 1 then s.cfgValid else if k = 2 then s.readyFlag else if k = 3 then false
    else if k < 8 then (errBits s.err).getLsbD (k - 4) else s.varBits.getLsbD (k - 8) := by
  simp only [State.status, BitVec.getLsbD_setWidth, BitVec.getLsbD_append]
  match k with
  | 0 => simp
  | 1 => simp
  | 2 => simp
  | 3 => simp
  | k + 4 =>
    by_cases hk : k < 4
    · simp [hk, show k + 4 < 8 by omega, show k + 4 < 32 by omega]
    · by_cases hword : k + 4 < 32
      · simp [hk, hword, show ¬k + 4 < 8 by omega]
      · simp [hk, hword, show ¬k + 4 < 8 by omega, BitVec.getLsbD_of_ge s.varBits (k - 4) (by omega)]

theorem status_errField (s : State) : s.status.extractLsb' 4 4 = errBits s.err := by
  apply BitVec.eq_of_getLsbD_eq
  intro k hk
  rw [BitVec.getLsbD_extractLsb', status_getLsbD]
  interval_cases k <;> simp

theorem status_varField (s : State) : s.status.extractLsb' 8 2 = s.varBits := by
  apply BitVec.eq_of_getLsbD_eq
  intro k hk
  rw [BitVec.getLsbD_extractLsb', status_getLsbD]
  interval_cases k <;> simp

theorem status_topBits (s : State) : s.status.extractLsb' 10 22 = 0#22 := by
  apply BitVec.eq_of_getLsbD_eq
  intro k hk
  rw [BitVec.getLsbD_extractLsb', status_getLsbD, BitVec.getLsbD_of_ge s.varBits _ (by omega)]
  simp [show 10 + k ≠ 1 by omega, show 10 + k ≠ 2 by omega, show ¬10 + k < 8 by omega]

theorem errBits_le (e : ErrCode) : (errBits e).toNat ≤ 8 := by
  cases e <;> decide

theorem status_reset : State.reset.status = 0x00000300#32 := by
  decide

/-! ### The statements -/

/-- Settles O7: the fields of STATUS are cut out bit by bit, and the codes are read from their tables. -/
theorem statusFieldsStandWhereTheSpecPutsThem : Obligations.StatusFieldsStandWhereTheSpecPutsThem := by
  unfold Obligations.StatusFieldsStandWhereTheSpecPutsThem
  refine ⟨status_reset, fun s => ⟨rfl, fun v => rfl, ?_, ?_, ?_, ?_, ?_, ?_, status_topBits s, ?_⟩⟩
  · exact (status_getLsbD s 0).trans (busy_eq_decide s)
  · exact status_getLsbD s 1
  · exact status_getLsbD s 2
  · exact status_getLsbD s 3
  · rw [status_errField]
    cases s.err <;> rfl
  · rw [status_varField]
    unfold State.varBits
    cases s.cfgValid <;> cases s.cfgVariant <;> rfl
  · rw [status_errField]
    exact errBits_le s.err

/-- Settles O41: a host access finds the queue not empty and leaves it; the sequencer moves the first event from the queue to the trace. -/
theorem queuedProgramCannotBeDisturbed : Obligations.QueuedProgramCannotBeDisturbed := by
  unfold Obligations.QueuedProgramCannotBeDisturbed
  intro s t hqueued hrst hstep
  rcases step_cases hstep with ⟨_, rfl⟩ | ⟨hturn, _⟩ | ⟨_, p, heffect⟩
  · refine ⟨.inr ⟨s.queue.head hqueued, ?_⟩, sequencerStep_events _⟩
    rw [sequencerStep_queue]
    exact (List.cons_head_tail hqueued).symm
  · exact absurd hturn hrst
  · have hqueue : t.queue = s.queue := heffect.queue.resolve_right hqueued
    obtain ⟨-, -, -, htrace, -⟩ := heffect.frame
    exact ⟨.inl hqueue, by rw [hqueue, htrace]; rfl⟩

/-- Settles O54: the sequencer never writes the latch, and the one host effect that does is an accepted CONFIGURE, which finds it invalid. -/
theorem configurationIsFixedUntilReset : Obligations.ConfigurationIsFixedUntilReset := by
  unfold Obligations.ConfigurationIsFixedUntilReset
  refine ⟨rfl, rfl, fun s t hstep hrst hfixed => (latch_eq_iff s t).1 ?_, fun s u t hrun hnot => (latch_eq_iff s u).1 ?_⟩
  · rcases step_cases hstep with ⟨_, rfl⟩ | ⟨hturn, _⟩ | ⟨hturn, p, heffect⟩
    · exact sequencerStep_latch _
    · exact absurd hturn hrst
    · have hvalid : s.cfgValid = true := hfixed.resolve_right (by simp [hturn])
      exact heffect.latch.resolve_right fun ⟨hinvalid, _⟩ => by simp [hvalid] at hinvalid
  · rcases hnot with hother | herr
    · obtain ⟨u', hu', hlatch⟩ := runTransaction_latch s hother
      cases hu'.symm.trans hrun
      exact hlatch
    · obtain ⟨u', hu', heffect⟩ := runTransaction_effect s t
      cases hu'.symm.trans hrun
      exact heffect.latch.resolve_right fun ⟨_, hnone⟩ => herr hnone

/-- Settles O56: by the frame of the host's effects, and because of the micro-steps only Quant writes WORD. -/
theorem onlyMicroStepsChangeWordLinesAndTrace : Obligations.OnlyMicroStepsChangeWordLinesAndTrace := by
  unfold Obligations.OnlyMicroStepsChangeWordLinesAndTrace
  intro s t hstep
  rcases step_cases hstep with ⟨hturn, rfl⟩ | ⟨hturn, _⟩ | ⟨hturn, p, heffect⟩
  · exact ⟨fun h => by simp [hturn] at h, fun _ hword => sequencerStep_word (s := s.setTurns s.turns.tail) hword⟩
  · exact ⟨fun h => by simp [hturn] at h, fun h => by simp [hturn] at h⟩
  · obtain ⟨hdata, hclk, hload, htrace, hword, henc, -⟩ := heffect.frame
    exact ⟨fun _ => ⟨hword, hdata, hclk, hload, htrace, henc⟩, fun h => by simp [hturn] at h⟩

/-- Settles O57: a transaction that is no write to CMD reaches neither field, and the sequencer only drops the first micro-step. -/
theorem onlyCommandWritesChangeErrOrFillTheQueue : Obligations.OnlyCommandWritesChangeErrOrFillTheQueue := by
  unfold Obligations.OnlyCommandWritesChangeErrOrFillTheQueue
  refine ⟨fun s u t hrun hnot => ?_, fun s t hstep hturn => ?_⟩
  · obtain ⟨u', hu', hkept⟩ := runTransaction_err_queue s hnot
    cases hu'.symm.trans hrun
    exact hkept
  · cases (step_of_sequencer hturn).symm.trans hstep
    exact ⟨sequencerStep_err _, sequencerStep_queue _⟩

/-- Settles O37: each micro-step's effect in the table of R35 is what `perform` does, and then the queue is the rest. -/
theorem sequencerPerformsTheFirstMicroStep : Obligations.SequencerPerformsTheFirstMicroStep := by
  unfold Obligations.SequencerPerformsTheFirstMicroStep
  intro s q hturn
  refine ⟨fun hq => ?_, fun w hq => ?_, fun b hq => ?_, fun b hq => ?_, fun b hq => ?_, fun hq => ?_, fun hq => ?_⟩
  · rw [step_of_sequencer hturn, sequencerStep_nil (s.setTurns s.turns.tail) hq]
    rfl
  all_goals
    rw [step_performs hturn hq]
    rfl

/-- Settles O40: the power-on state is written out in the model, and the reset input's trace is its law. -/
theorem resetStateHasTheValuesOfTheTable : Obligations.ResetStateHasTheValuesOfTheTable := by
  unfold Obligations.ResetStateHasTheValuesOfTheTable
  exact ⟨rfl, rfl, rfl, rfl, rfl, rfl, rfl, rfl, rfl, rfl, rfl, rfl, rfl, rfl, rfl, rfl, status_reset, State.resetInput_trace⟩

/-- Settles O49: at power-on nothing is configured, ready or pending, the lines are LOW and the trace is empty. -/
theorem invariantHoldsAtReset : Obligations.InvariantHoldsAtReset := by
  unfold Obligations.InvariantHoldsAtReset
  have hconfig : State.reset.configOk := ⟨nofun, nofun, nofun⟩
  have hlines : State.reset.linesOk := rfl
  have htrace : State.reset.traceOk := rfl
  have hframes : State.reset.framesOk := rfl
  exact ⟨hconfig, hlines, htrace, hframes⟩

end Sys2Proof.Machine
end

section
/-! PROOFS. Family 20_memory.md: the host's turn (O36), the sequencer left alone with its queue (O42), and the byte-addressed host's adapter (O47). -/

namespace Sys2Proof.Machine

/-! ### The host's turn (R67, R70.1) -/

theorem runTransaction_of_decode {t : Transaction} {i : Instr} (h : decode t = .ok i) (s : State) :
    runTransaction t s = exec i s := by
  simp [runTransaction, h]

theorem hostTurn_transaction {s : State} {t : Transaction} {rest : List HostOp} (h : s.program = .transaction t :: rest) :
    hostTurn s = runTransaction t (s.setProgram rest) := by
  simp [hostTurn, h]

theorem step_of_host {s : State} (h : nextTurn s = .host) : step s = hostTurn (s.setTurns s.turns.tail) := by
  rw [step, h]
  rfl

theorem step_runs {s : State} {t : Transaction} {i : Instr} {rest : List HostOp} (hdecode : decode t = .ok i)
    (hturn : nextTurn s = .host) (hprogram : s.program = .transaction t :: rest) :
    step s = exec i ((s.setTurns s.turns.tail).setProgram rest) := by
  have hused : (s.setTurns s.turns.tail).program = .transaction t :: rest := hprogram
  rw [step_of_host hturn, hostTurn_transaction hused, runTransaction_of_decode hdecode]

@[simp] theorem transactionOfNat_toNat (t : Transaction) : transactionOfNat t.toNat = t := by
  simp [transactionOfNat]

theorem withFetchWord_program (s : State) (nbits : Nat) (t : Transaction) :
    (s.withFetchWord nbits t.toNat).program = .transaction t :: s.program := by
  simp [State.withFetchWord]

/-- Settles O36: the host's turn takes the transaction off the program and decodes it; after withFetchWord that is the placed word, and taking
it and its turn off leaves the state it was placed in. -/
theorem stepRunsTheDecodedInstruction : Obligations.StepRunsTheDecodedInstruction := by
  unfold Obligations.StepRunsTheDecodedInstruction
  intro s i t hdecode
  exact ⟨fun _ hturn hprogram => step_runs hdecode hturn hprogram,
    fun nbits => step_runs hdecode (s := s.withFetchWord nbits t.toNat) rfl (withFetchWord_program s nbits t)⟩

/-! ### Performing a whole queue (R210) -/

/-- The effects of a list of micro-steps, in order; the queue itself is not touched. -/
def State.performAll (s : State) (q : List MicroStep) : State := q.foldl State.perform s

theorem performAll_cons (s : State) (m : MicroStep) (q : List MicroStep) :
    s.performAll (m :: q) = (s.perform m).performAll q := rfl

theorem setQueue_of_queue {s : State} {q : List MicroStep} (h : s.queue = q) : s.setQueue q = s := by
  subst h
  rfl

/-- No effect of a micro-step depends on what is still queued. -/
theorem setQueue_performAll (s : State) (r q : List MicroStep) : (s.setQueue r).performAll q = (s.performAll q).setQueue r :=
  List.foldl_hom (State.setQueue · r) fun _ m => by cases m <;> rfl

theorem performAll_trace (s : State) (q : List MicroStep) : (s.performAll q).trace = s.trace ++ busEvents q := by
  induction q generalizing s with
  | nil => simp [State.performAll]
  | cons m q ih =>
    obtain ⟨htrace, -⟩ := perform_setQueue s m q
    rw [State.setQueue_trace] at htrace
    rw [performAll_cons, ih, htrace, busEvents_cons m q, List.append_assoc]

/-- The state with everything blanked that a micro-step or the dropping of it writes: `WORD`, `enc`, the queue, the lines and the trace. -/
def State.outsideSequencer (s : State) : State :=
  { s with word := 0#32, enc := .uninit, queue := [], lineData := false, lineClk := false, lineLoad := false, trace := [] }

theorem performAll_outsideSequencer (s : State) (q : List MicroStep) :
    (s.performAll q).outsideSequencer = s.outsideSequencer := by
  induction q generalizing s with
  | nil => rfl
  | cons m q ih =>
    have hone : (s.perform m).outsideSequencer = s.outsideSequencer := by cases m <;> rfl
    rw [performAll_cons, ih, hone]

/-- States that agree outside the sequencer agree in every field it does not write. -/
theorem fields_of_outsideSequencer_eq {s t : State} (h : t.outsideSequencer = s.outsideSequencer) :
    t.turns = s.turns ∧ t.program = s.program ∧ t.results = s.results ∧ t.freq = s.freq ∧ t.refclk = s.refclk ∧ t.cal = s.cal ∧
      t.clkmul = s.clkmul ∧ t.wave = s.wave ∧ t.sel = s.sel ∧ t.cfgValid = s.cfgValid ∧ t.cfgVariant = s.cfgVariant ∧
      t.cfgRefclk = s.cfgRefclk ∧ t.err = s.err := by
  simp only [State.outsideSequencer, State.mk.injEq] at h
  simp [h]

/-! ### The default order of agents (R70.4, log 1) -/

theorem nextTurn_of_queued {s : State} (hturns : s.turns = []) (hqueued : s.queue ≠ []) : nextTurn s = .sequencer := by
  simp [nextTurn, hturns, (busy_eq_true_iff s).2 hqueued]

theorem setTurns_self (s : State) : s.setTurns s.turns = s := rfl

theorem step_performs_of_no_turns {s : State} {m : MicroStep} {q : List MicroStep} (hturns : s.turns = []) (hq : s.queue = m :: q) :
    step s = .next ((s.perform m).setQueue q) := by
  have hturn : nextTurn s = .sequencer := nextTurn_of_queued hturns (by simp [hq])
  have htail : s.turns.tail = s.turns := by rw [hturns, List.tail_nil]
  rw [step_performs hturn hq, htail, setTurns_self]

/-- With no turns chosen, as many steps as the queue holds perform the whole queue and nothing else. -/
theorem runSteps_performAll {s : State} {q : List MicroStep} (hturns : s.turns = []) (hq : s.queue = q) :
    runSteps q.length s = .next ((s.performAll q).setQueue []) := by
  induction q generalizing s with
  | nil =>
    exact congrArg Host.Outcome.next (setQueue_of_queue hq).symm
  | cons m q ih =>
    obtain ⟨-, hqueue, hturns', -⟩ := perform_setQueue s m q
    calc runSteps (m :: q).length s
        = runSteps q.length ((s.perform m).setQueue q) := runSteps_succ q.length (step_performs_of_no_turns hturns hq)
      _ = .next ((((s.perform m).setQueue q).performAll q).setQueue []) := ih (hturns'.trans hturns) hqueue
      _ = .next ((s.performAll (m :: q)).setQueue []) := by rw [setQueue_performAll]; rfl

/-- Settles O42: the run performs the queue, whose events go to the trace, and no micro-step writes anything outside the sequencer's own fields. -/
theorem sequencerDrainsTheQueue : Obligations.SequencerDrainsTheQueue := by
  unfold Obligations.SequencerDrainsTheQueue
  intro s hturns
  have hkept : ((s.performAll s.queue).setQueue []).outsideSequencer = s.outsideSequencer := performAll_outsideSequencer s s.queue
  obtain ⟨hturns', hfields⟩ := fields_of_outsideSequencer_eq hkept
  exact ⟨_, runSteps_performAll hturns rfl, rfl, performAll_trace s s.queue, hturns'.trans hturns, hfields⟩

/-! ### The byte-addressed host's adapter (R61, R68) -/

theorem adapt_register (base : Nat) (i : BitVec 3) : adapt base (base + 4 * i.toNat) = .index i := by
  have hi : i.toNat < 8 := i.isLt
  have hinside : ¬(base + 4 * i.toNat < base ∨ base + 32 ≤ base + 4 * i.toNat) := by omega
  rw [adapt, if_neg hinside]
  simp

theorem adapt_misaligned {base addr : Nat} (hlow : base ≤ addr) (hhigh : addr < base + 32) (hoff : (addr - base) % 4 ≠ 0) :
    adapt base addr = .misaligned := by
  have hinside : ¬(addr < base ∨ base + 32 ≤ addr) := by omega
  rw [adapt, if_neg hinside, if_pos hoff]

theorem adapt_unmapped {base addr : Nat} (h : addr < base ∨ base + 32 ≤ addr) : adapt base addr = .unmapped :=
  if_pos h

/-- Settles O47: the adapter's three answers, each with what the host's access does on it. -/
theorem byteAddressesReachTheRegistersOrStop : Obligations.ByteAddressesReachTheRegistersOrStop := by
  unfold Obligations.ByteAddressesReachTheRegistersOrStop
  intro s write data addr
  refine ⟨fun i haddr => ?_, fun hlow hhigh hoff => ?_, fun houtside => ?_⟩
  · rw [haddr, runByteAccess, adapt_register]
  · rw [runByteAccess, adapt_misaligned hlow hhigh hoff]
  · rw [runByteAccess, adapt_unmapped houtside]

end Sys2Proof.Machine
end

section
/-! PROOFS. Family 30_encoding.md, the transactions: decoding and encoding are inverse (O1, O2, O5), the opcode table lists exactly what decodes (O3),
the command words (O4), the pseudo-instructions as transactions (O46), and `wait_idle` (O45). A transaction is a read, a write to one of seven
registers, or a write to CMD, whose word is a command or is refused; each proof goes through these cases. -/

namespace Sys2Proof

/-! ### The command words (R81 to R85) -/

/-- The instruction of an accepted command word (R85). -/
def Command.instr : Command → Instr
  | .nop => .cmdNop
  | .configure => .cmdConfigure
  | .init => .cmdInitialize
  | .setFrequency => .cmdSetFrequency
  | .quantize28 => .cmdQuantize28
  | .quantize32 => .cmdQuantize32

theorem decodeCommand_word (c : Command) : decodeCommand c.word = .ok c.instr := by
  cases c <;> rfl

theorem encode_instr (c : Command) : encode c.instr = commandTransaction c := by
  cases c <;> rfl

theorem decodeCommand_reserved {v : Word} (h : reservedEncoding v = true) : decodeCommand v = .error (.reservedCommand v) := by
  simp [decodeCommand, h]

/-- The words with a legal layout and an opcode of none of the commands (R84). -/
theorem decodeCommand_illegal {v : Word} (h : v = 0x5#32 ∨ v = 0x6#32 ∨ v = 0x7#32) : decodeCommand v = .error (.illegalCommand v) := by
  rcases h with rfl | rfl | rfl <;> rfl

theorem command_word_iff (v : Word) : (∃ c : Command, v = c.word) ↔
    v = 0x00000000#32 ∨ v = 0x00000001#32 ∨ v = 0x00000002#32 ∨ v = 0x00000003#32 ∨ v = 0x00000004#32 ∨ v = 0x0000000C#32 := by
  constructor
  · rintro ⟨c, rfl⟩
    cases c <;> decide
  · rintro (h | h | h | h | h | h)
    · exact ⟨.nop, h⟩
    · exact ⟨.configure, h⟩
    · exact ⟨.init, h⟩
    · exact ⟨.setFrequency, h⟩
    · exact ⟨.quantize28, h⟩
    · exact ⟨.quantize32, h⟩

/-- A word without reserved bits is below 16, and of the sixteen those with bit 3 set are reserved but for 0xC. -/
theorem word_cases_of_unreserved {v : Word} (h : reservedEncoding v = false) :
    (∃ c : Command, v = c.word) ∨ v = 0x5#32 ∨ v = 0x6#32 ∨ v = 0x7#32 := by
  have hlow : ∀ n < 16, reservedEncoding (BitVec.ofNat 32 n) = false →
      n ∈ [0x0, 0x1, 0x2, 0x3, 0x4, 0xC] ∨ n ∈ [0x5, 0x6, 0x7] := by decide
  have hbits : cmdReserved v = 0#28 := by
    by_contra hne
    simp [reservedEncoding, hne] at h
  have hnumber := hlow v.toNat (lt_sixteen_of_unreserved hbits) (by simpa using h)
  rw [command_word_iff]
  simpa [← BitVec.toNat_inj] using hnumber

/-- Every word written to CMD is a command, reserved or illegal (R84, R85), and decodes so. -/
theorem decodeCommand_cases (v : Word) :
    (∃ c : Command, v = c.word ∧ decodeCommand v = .ok c.instr) ∨ ∃ e, decodeCommand v = .error e := by
  cases hr : reservedEncoding v with
  | true => exact .inr ⟨_, decodeCommand_reserved hr⟩
  | false =>
    rcases word_cases_of_unreserved hr with ⟨c, rfl⟩ | hillegal
    · exact .inl ⟨c, rfl, decodeCommand_word c⟩
    · exact .inr ⟨_, decodeCommand_illegal hillegal⟩

theorem decodeCommand_isOk_iff (v : Word) : (∃ i, decodeCommand v = .ok i) ↔ ∃ c : Command, v = c.word := by
  constructor
  · rintro ⟨i, hi⟩
    rcases decodeCommand_cases v with ⟨c, hv, _⟩ | ⟨e, he⟩
    · exact ⟨c, hv⟩
    · simp [he] at hi
  · rintro ⟨c, rfl⟩
    exact ⟨_, decodeCommand_word c⟩

/-- Reserved words by their bits, as R84 describes them. -/
theorem reservedEncoding_iff (v : Word) :
    reservedEncoding v = true ↔ v.extractLsb' 4 28 ≠ 0#28 ∨ (v.getLsbD 3 = true ∧ v.extractLsb' 0 3 ≠ 4#3) := by
  simp [reservedEncoding, cmdReserved, cmdW, cmdOp]

/-! ### Reads and writes (R80, R103) -/

/-- A transaction is a read of some register, with an ignored DATA, or a write to one (R80). -/
theorem transaction_cases (t : Transaction) :
    (∃ r d, t = transaction false (Reg.index r) d) ∨ ∃ r v, t = writeTransaction r v := by
  have hfields := transaction_fields t
  rw [← Reg.index_ofIndex (regIndex t)] at hfields
  cases hw : writeEnable t with
  | false => exact .inl ⟨_, _, (hw ▸ hfields).symm⟩
  | true => exact .inr ⟨_, _, (hw ▸ hfields).symm⟩

theorem decode_read (r : Reg) (d : Word) : decode (transaction false r.index d) = .ok (decodeRead r) := by
  simp [decode]

theorem encode_decodeRead (r : Reg) : encode (decodeRead r) = readTransaction r := by
  cases r <;> rfl

theorem encode_of_decodeWrite {r : Reg} {v : Word} {i : Instr} (h : decodeWrite r v = .ok i) : encode i = writeTransaction r v := by
  cases r with
  | cmd =>
    rcases decodeCommand_cases v with ⟨c, rfl, hc⟩ | ⟨e, he⟩
    · cases hc.symm.trans h
      exact encode_instr c
    · cases he.symm.trans h
  | _ =>
    cases h
    rfl

/-- A read's top four bits, moved back to their place, are the read with DATA 0. -/
theorem topBits_of_read (r : Reg) (d : Word) :
    ((transaction false r.index d).extractLsb' 32 4).setWidth 36 <<< 32 = readTransaction r := by
  have htop : (transaction false r.index d).extractLsb' 32 4 = BitVec.ofBool false ++ r.index := BitVec.extractLsb'_append_eq_left
  rw [htop]
  cases r <;> rfl

theorem transaction_getLsbD_35 (we : Bool) (idx : BitVec 3) (d : Word) : (transaction we idx d).getLsbD 35 = we :=
  writeEnable_transaction we idx d

/-! ### The statements on decoding and encoding -/

/-- A read decodes by its register, a write by its register and its data, and a command word to its command. -/
theorem decode_encode (i : Instr) : decode (encode i) = .ok i := by
  cases i
  case rdCmd | rdStatus | rdFreq | rdRefclk | rdCal | rdOptions | rdVariant | rdWord => exact decode_readTransaction _
  case wrStatus v | wrFreq v | wrRefclk v | wrCal v | wrOptions v | wrVariant v | wrWord v => exact decode_writeTransaction _ v
  case cmdNop | cmdConfigure | cmdInitialize | cmdSetFrequency | cmdQuantize28 | cmdQuantize32 =>
    exact (decode_writeTransaction .cmd _).trans (decodeCommand_word _)

/-- Settles O1, for every instruction, since every one is well-formed. -/
theorem decodeAfterEncode : Obligations.DecodeAfterEncode := by
  unfold Obligations.DecodeAfterEncode
  exact fun i _ => decode_encode i

/-- Settles O2: a write's instruction keeps the whole DATA, a read's nothing of it. -/
theorem encodeAfterDecode : Obligations.EncodeAfterDecode := by
  unfold Obligations.EncodeAfterDecode
  intro t i h
  rcases transaction_cases t with ⟨r, d, rfl⟩ | ⟨r, v, rfl⟩
  · cases (decode_read r d).symm.trans h
    rw [transaction_getLsbD_35, encode_decodeRead, if_neg Bool.false_ne_true, topBits_of_read]
  · rw [decode_writeTransaction] at h
    rw [writeTransaction, transaction_getLsbD_35, if_pos rfl, encode_of_decodeWrite h, writeTransaction]

/-- Settles O4: every word is a command, reserved or illegal, and a write to CMD decodes by its word. -/
theorem onlySixCommandWordsAreInstructions : Obligations.OnlySixCommandWordsAreInstructions := by
  unfold Obligations.OnlySixCommandWordsAreInstructions
  intro v
  rw [decode_writeTransaction]
  exact ⟨(decodeCommand_isOk_iff v).trans (command_word_iff v), fun h => decodeCommand_reserved ((reservedEncoding_iff v).2 h),
    decodeCommand_illegal⟩

/-- Settles O5: eleven transactions written out, each decoded by evaluation. -/
theorem specWordsDecodeAsTheSpecSays : Obligations.SpecWordsDecodeAsTheSpecSays := by
  unfold Obligations.SpecWordsDecodeAsTheSpecSays
  exact ⟨rfl, rfl, rfl, rfl, rfl, rfl, rfl, rfl, rfl, rfl, rfl⟩

/-! ### The opcode table -/

/-- The mnemonics of the rows that accept a transaction. -/
def acceptingMnemonics (rows : List Row) (t : Transaction) : List String :=
  (rows.filter fun r => r.accepts t).map fun r => r.mnemonic

theorem acceptingMnemonics_append (a b : List Row) (t : Transaction) :
    acceptingMnemonics (a ++ b) t = acceptingMnemonics a t ++ acceptingMnemonics b t := by
  simp [acceptingMnemonics]

theorem acceptingMnemonics_eq_nil {rows : List Row} {t : Transaction} (h : ∀ row ∈ rows, row.accepts t = false) :
    acceptingMnemonics rows t = [] := by
  rw [acceptingMnemonics, List.filter_eq_nil_iff.2 fun row hrow => by simp [h row hrow], List.map_nil]

/-- The rows of the accesses to registers, whose fixed bits are the four bits `{WE, IDX}`. -/
def registerRows : List Row := readRows ++ writeRows

theorem mask_of_registerRow : ∀ row ∈ registerRows, row.mask = 0xF00000000#36 := by decide

theorem transaction_and_topMask (we : Bool) (idx : BitVec 3) (d : Word) :
    transaction we idx d &&& 0xF00000000#36 = transaction we idx 0#32 := by
  change (BitVec.ofBool we ++ idx ++ d) &&& (BitVec.allOnes (1 + 3) ++ 0#32) = BitVec.ofBool we ++ idx ++ 0#32
  rw [BitVec.and_append, BitVec.and_allOnes, BitVec.and_zero]

/-- The DATA of a transaction is no matter to the register rows. -/
theorem registerRows_ignore_data (we : Bool) (idx : BitVec 3) (d : Word) :
    acceptingMnemonics registerRows (transaction we idx d) = acceptingMnemonics registerRows (transaction we idx 0#32) := by
  refine congrArg (List.map Row.mnemonic) (List.filter_congr fun row hrow => ?_)
  rw [Row.accepts, Row.accepts, mask_of_registerRow row hrow, transaction_and_topMask, transaction_and_topMask]

theorem registerRows_read (r : Reg) (d : Word) :
    acceptingMnemonics registerRows (transaction false r.index d) = [mnemonic (decodeRead r)] := by
  rw [registerRows_ignore_data]
  cases r <;> decide

theorem registerRows_write {r : Reg} {v : Word} {i : Instr} (hr : r ≠ .cmd) (h : decodeWrite r v = .ok i) :
    acceptingMnemonics registerRows (writeTransaction r v) = [mnemonic i] := by
  rw [writeTransaction, registerRows_ignore_data]
  cases r with
  | cmd => exact absurd rfl hr
  | _ =>
    cases h
    rfl

theorem registerRows_cmd (v : Word) : acceptingMnemonics registerRows (writeTransaction .cmd v) = [] := by
  rw [writeTransaction, registerRows_ignore_data]
  decide

theorem commandRows_command (c : Command) : acceptingMnemonics commandRows (commandTransaction c) = [mnemonic c.instr] := by
  cases c <;> decide

/-- A command row fixes all 36 bits. -/
theorem mask_of_commandRow : ∀ row ∈ commandRows, row.mask = BitVec.allOnes 36 := by decide

theorem pattern_of_commandRow {row : Row} (h : row ∈ commandRows) : ∃ c, row.pattern = commandTransaction c := by
  simp only [commandRows, List.mem_cons, List.not_mem_nil, or_false] at h
  rcases h with rfl | rfl | rfl | rfl | rfl | rfl
  · exact ⟨.nop, rfl⟩
  · exact ⟨.configure, rfl⟩
  · exact ⟨.init, rfl⟩
  · exact ⟨.setFrequency, rfl⟩
  · exact ⟨.quantize28, rfl⟩
  · exact ⟨.quantize32, rfl⟩

theorem commandRows_other {t : Transaction} (h : ∀ c, t ≠ commandTransaction c) : acceptingMnemonics commandRows t = [] := by
  refine acceptingMnemonics_eq_nil fun row hrow => ?_
  obtain ⟨c, hc⟩ := pattern_of_commandRow hrow
  rw [Row.accepts, mask_of_commandRow row hrow, BitVec.and_allOnes, hc]
  exact decide_eq_false (h c)

theorem read_ne_commandTransaction (idx : BitVec 3) (d : Word) (c : Command) : transaction false idx d ≠ commandTransaction c := by
  intro h
  simpa [commandTransaction, writeTransaction] using congrArg writeEnable h

theorem eq_of_write_eq_command {r : Reg} {v : Word} {c : Command} (h : writeTransaction r v = commandTransaction c) :
    r = .cmd ∧ v = c.word := by
  rw [commandTransaction, writeTransaction, writeTransaction] at h
  have hindex : r.index = Reg.cmd.index := by simpa using congrArg regIndex h
  have hdata : v = c.word := by simpa using congrArg dataField h
  exact ⟨by simpa using congrArg Reg.ofIndex hindex, hdata⟩

theorem decodeWrite_isOk {r : Reg} (hr : r ≠ .cmd) (v : Word) : ∃ i, decodeWrite r v = .ok i := by
  cases r with
  | cmd => exact absurd rfl hr
  | _ => exact ⟨_, rfl⟩

theorem opcodeTable_accepting (t : Transaction) :
    acceptingMnemonics opcodeTable t = acceptingMnemonics registerRows t ++ acceptingMnemonics commandRows t := by
  rw [opcodeTable, ← List.append_assoc, acceptingMnemonics_append, registerRows]

/-- Settles O3: a register row sees the four top bits, a command row the whole transaction, and a write to CMD meets no register row. -/
theorem opcodeTableRowsAreDecodedAndNeverOverlap : Obligations.OpcodeTableRowsAreDecodedAndNeverOverlap := by
  unfold Obligations.OpcodeTableRowsAreDecodedAndNeverOverlap
  intro t
  refine (opcodeTable_accepting t).trans ?_
  rcases transaction_cases t with ⟨r, d, rfl⟩ | ⟨r, v, rfl⟩
  · rw [decode_read, registerRows_read, commandRows_other (read_ne_commandTransaction _ d)]
    rfl
  · rw [decode_writeTransaction]
    by_cases hr : r = .cmd
    · subst hr
      rw [registerRows_cmd, List.nil_append, decodeWrite]
      rcases decodeCommand_cases v with ⟨c, rfl, hc⟩ | ⟨e, he⟩
      · rw [hc]
        exact commandRows_command c
      · rw [he]
        refine commandRows_other fun c hcommand => ?_
        obtain ⟨-, rfl⟩ := eq_of_write_eq_command hcommand
        simp [decodeCommand_word] at he
    · obtain ⟨i, hi⟩ := decodeWrite_isOk hr v
      rw [hi, registerRows_write hr hi, commandRows_other fun c hcommand => hr (eq_of_write_eq_command hcommand).1]
      rfl

end Sys2Proof

namespace Sys2Proof.Machine

/-! ### The pseudo-instructions (R104) -/

/-- A write in the 36-bit form, with its register's value. -/
theorem opWr_toNat (r : Reg) (v : Word) : opWr r v.toNat = .transaction (writeTransaction r v) := by
  rw [opWr, BitVec.ofNat_toNat, BitVec.setWidth_eq]

/-- Settles O46: each line is its expansion by definition, and the four top bits of a write evaluate to 8 plus its register's index. -/
theorem pseudoInstructionsExpandToTheirAccesses : Obligations.PseudoInstructionsExpandToTheirAccesses := by
  unfold Obligations.PseudoInstructionsExpandToTheirAccesses
  intro v clk f x
  simp only [assemble, opWr_toNat]
  exact ⟨rfl, rfl, rfl, rfl, trivial, rfl, rfl⟩

/-! ### `wait_idle` (R104) -/

theorem hostTurn_waitIdle {s : State} {rest : List HostOp} (h : s.program = .waitIdle :: rest) :
    hostTurn s = .next (waitIdleTurn rest s) := by
  simp [hostTurn, h]

/-- The host stays in the loop while BUSY is 1, and so exactly while the queue is not empty (R33). -/
theorem waitIdleTurn_eq (rest : List HostOp) (s : State) :
    waitIdleTurn rest s = (s.hostRead .status).setProgram (if s.queue = [] then rest else s.program) := by
  rw [waitIdleTurn, status_getLsbD, if_pos rfl]
  by_cases hq : s.queue = []
  · rw [if_pos hq, (busy_eq_false_iff s).2 hq, if_neg Bool.false_ne_true]
  · rw [if_neg hq, (busy_eq_true_iff s).2 hq, if_pos rfl]
    rfl

/-- Settles O45: the host's turn is one turn of the loop, on the state with the turn used up. -/
theorem waitIdleLoopsUntilTheQueueIsEmpty : Obligations.WaitIdleLoopsUntilTheQueueIsEmpty := by
  unfold Obligations.WaitIdleLoopsUntilTheQueueIsEmpty
  intro s rest hturn hprogram
  have hused : (s.setTurns s.turns.tail).program = .waitIdle :: rest := hprogram
  rw [step_of_host hturn, hostTurn_waitIdle hused, waitIdleTurn_eq]
  rfl

end Sys2Proof.Machine
end

section
/-! PROOFS. Family 30_encoding.md, the frames and the framing ROM: the two frequency frames (O28), the ROM's frame programs (O32), and the ROM contents
the model leaves free (O35), for which the constants of R100 are described by the positions of their set bits. -/

namespace Sys2Proof.Machine

/-! ### The frequency frames (R88) -/

theorem frame_01_eq_or (x : BitVec 14) : (1#2 ++ x : BitVec 16) = 0x4000#16 ||| x.setWidth 16 := by
  have hx : x.setWidth 16 = 0#2 ++ x := BitVec.setWidth_eq_append (by decide)
  have hor : (1#2 ++ 0#14 : BitVec (2 + 14)) ||| (0#2 ++ x) = 1#2 ++ x := by
    rw [BitVec.or_append, BitVec.or_zero, BitVec.zero_or]
  rw [hx]
  exact hor.symm

theorem setWidth_low14 (w : Word) : (w &&& 0x3FFF#32).setWidth 16 = (w.extractLsb' 0 14).setWidth 16 := by
  apply BitVec.eq_of_toNat_eq
  have hmask : (w &&& 0x3FFF#32).toNat = w.toNat % 2 ^ 14 := Nat.and_two_pow_sub_one_eq_mod w.toNat 14
  rw [BitVec.toNat_setWidth, BitVec.toNat_setWidth, hmask, BitVec.extractLsb'_toNat, Nat.shiftRight_zero]

theorem extract_high14 (w : Word) : (w >>> 14).extractLsb' 0 14 = w.extractLsb' 14 14 := by
  apply BitVec.eq_of_toNat_eq
  simp

/-- Settles O28: a frame is 01 and 14 bits put together, and neighbouring pieces of a word put together are the whole piece. -/
theorem frequencyFramesConcatenateBackToTheWord : Obligations.FrequencyFramesConcatenateBackToTheWord := by
  unfold Obligations.FrequencyFramesConcatenateBackToTheWord
  intro w _
  refine ⟨?_, ?_, BitVec.extractLsb'_append_eq_left, BitVec.extractLsb'_append_eq_left, ?_⟩
  · rw [frameLo, frame_01_eq_or, setWidth_low14]
  · rw [frameHi, frame_01_eq_or, setWidth_low14, extract_high14]
  · calc (frameHi w).extractLsb' 0 14 ++ (frameLo w).extractLsb' 0 14
        = w.extractLsb' 14 14 ++ w.extractLsb' 0 14 :=
          congrArg₂ (· ++ ·) BitVec.extractLsb'_append_eq_right BitVec.extractLsb'_append_eq_right
      _ = w.extractLsb' 0 28 := BitVec.extractLsb'_append_extractLsb'_eq_extractLsb' rfl
      _ = w.setWidth 28 := (BitVec.setWidth_eq_extractLsb' (by decide)).symm

/-! ### The frame programs of the ROM (R102) -/

theorem lt_of_mem_bitPositions {i n : Nat} {o : BitOrder} (h : i ∈ bitPositions n o) : i < n := by
  cases o with
  | msb => simpa [bitPositions] using h
  | lsb => simpa [bitPositions] using h

/-- A ROM entry holds its value in 32 bits; a frame of at most 32 of them sends the value's own bits. -/
theorem sendFrame_setWidth {k n : Nat} (v : Variant) (val : BitVec k) (o : BitOrder) (hn : n ≤ 32) :
    sendFrame v (val.setWidth 32) n o = sendFrame v val n o := by
  have hbits : frameBits (val.setWidth 32) n o = frameBits val n o := by
    refine List.map_congr_left fun i hi => ?_
    have hi32 : i < 32 := (lt_of_mem_bitPositions hi).trans_le hn
    simp [hi32]
  rw [sendFrame, sendFrame, hbits]

theorem expand_append (v : Variant) (a b : List FrameEntry) : expand v (a ++ b) = expand v a ++ expand v b := by
  simp [expand]

theorem expand_romFrame28 (val : BitVec 16) : expand .v28 (romFrame28 val) = frame28 val := by
  simp [expand, romFrame28, expandEntry, frame28, sendFrame_setWidth]

theorem expand_romInit (rom : Rom28) (mode : BitVec 8) (v : Variant) : expand v (romInit rom mode v) = initProgram rom mode v := by
  cases v with
  | v28 => simp only [romInit, initProgram, init28, expand_append, expand_romFrame28]
  | v32 => simp [romInit, initProgram, init32, expand, expandEntry, sendFrame_setWidth]
  | v32m => simp [romInit, initProgram, init32, expand, expandEntry, sendFrame_setWidth]

theorem expand_romSetf (rom : Rom28) (w : Word) (clkmul wave : Bool) (v : Variant) :
    expand v (romSetf rom w clkmul wave v) = setfProgram rom w clkmul wave v := by
  cases v with
  | v28 => simp only [romSetf, setfProgram, setf28, expand_append, expand_romFrame28]
  | v32 => simp [romSetf, setfProgram, setf32, expand, expandEntry, sendFrame_setWidth]
  | v32m => simp [romSetf, setfProgram, setf32, expand, expandEntry, sendFrame_setWidth]

/-- Settles O32: entry by entry, each frame sent at its own width. -/
theorem romProgramsExpandToTheSequences : Obligations.RomProgramsExpandToTheSequences := by
  unfold Obligations.RomProgramsExpandToTheSequences
  exact fun rom mode w clkmul wave v => ⟨expand_romInit rom mode v, expand_romSetf rom w clkmul wave v⟩

end Sys2Proof.Machine

namespace Sys2Proof

/-! ### The set bits of a ROM constant (R100) -/

/-- The positions of the set bits. -/
def setBits (v : BitVec 16) : Finset Nat := (Finset.range 16).filter fun i => v.getLsbD i = true

theorem bitCount_eq_card (v : BitVec 16) : bitCount v = (setBits v).card := by
  have hnodup : ((List.range 16).filter fun i => v.getLsbD i).Nodup := List.nodup_range.filter _
  rw [bitCount, ← List.toFinset_card_of_nodup hnodup]
  congr 1
  ext i
  simp [setBits]

@[simp] theorem mem_setBits (v : BitVec 16) (i : Nat) : i ∈ setBits v ↔ v.getLsbD i = true := by
  simp only [setBits, Finset.mem_filter, Finset.mem_range, and_iff_right_iff_imp]
  exact fun h => BitVec.lt_of_getLsbD h

theorem lt_of_mem_setBits {v : BitVec 16} {i : Nat} (h : i ∈ setBits v) : i < 16 :=
  BitVec.lt_of_getLsbD ((mem_setBits v i).1 h)

/-- A constant is given by its set bits. -/
theorem setBits_inj {v w : BitVec 16} : setBits v = setBits w ↔ v = w := by
  refine ⟨fun h => BitVec.eq_of_getLsbD_eq fun i _ => ?_, congrArg setBits⟩
  rw [Bool.eq_iff_iff, ← mem_setBits, ← mem_setBits, h]

theorem setBits_oneBit {p : Nat} (hp : p < 16) : setBits (oneBit p) = {p} := by
  ext i
  simp [oneBit, BitVec.getLsbD_twoPow, hp, eq_comm]

theorem setBits_or (v w : BitVec 16) : setBits (v ||| w) = setBits v ∪ setBits w := by
  ext i
  simp

theorem setBits_and (v w : BitVec 16) : setBits (v &&& w) = setBits v ∩ setBits w := by
  ext i
  simp

theorem setBits_zero : setBits 0#16 = ∅ := by
  ext i
  simp

theorem bitCount_eq_one_iff (v : BitVec 16) : bitCount v = 1 ↔ ∃ r < 16, v = oneBit r := by
  rw [bitCount_eq_card]
  constructor
  · intro h
    obtain ⟨r, hr⟩ := Finset.card_eq_one.1 h
    have hlt : r < 16 := lt_of_mem_setBits (v := v) (by simp [hr])
    exact ⟨r, hlt, setBits_inj.1 (hr.trans (setBits_oneBit hlt).symm)⟩
  · rintro ⟨r, hlt, rfl⟩
    rw [setBits_oneBit hlt, Finset.card_singleton]

theorem setBits_twoBits {p q : Nat} (hp : p < 16) (hq : q < 16) : setBits (oneBit p ||| oneBit q) = {p, q} := by
  rw [setBits_or, setBits_oneBit hp, setBits_oneBit hq]
  rfl

theorem bitCount_eq_two_iff (v : BitVec 16) : bitCount v = 2 ↔ ∃ p < 16, ∃ q < 16, p ≠ q ∧ v = oneBit p ||| oneBit q := by
  rw [bitCount_eq_card]
  constructor
  · intro h
    obtain ⟨p, q, hne, hpq⟩ := Finset.card_eq_two.1 h
    have hp : p < 16 := lt_of_mem_setBits (v := v) (by simp [hpq])
    have hq : q < 16 := lt_of_mem_setBits (v := v) (by simp [hpq])
    exact ⟨p, hp, q, hq, hne, setBits_inj.1 (hpq.trans (setBits_twoBits hp hq).symm)⟩
  · rintro ⟨p, hp, q, hq, hne, rfl⟩
    rw [setBits_twoBits hp hq, Finset.card_pair hne]

theorem oneBit_and_twoBits_eq_zero_iff {p q r : Nat} (hp : p < 16) (hq : q < 16) (hr : r < 16) :
    oneBit r &&& (oneBit p ||| oneBit q) = 0#16 ↔ r ≠ p ∧ r ≠ q := by
  rw [← setBits_inj, setBits_and, setBits_oneBit hr, setBits_twoBits hp hq, setBits_zero, ← Finset.disjoint_iff_inter_eq_empty,
    Finset.disjoint_singleton_left]
  simp

/-- The three constraints, by positions: two for SETF_CTRL, and a third for TRI_BIT. -/
theorem Rom28.wellFormed_iff (rom : Rom28) : rom.wellFormed = true ↔ ∃ p q r, p < 16 ∧ q < 16 ∧ r < 16 ∧ p ≠ q ∧ r ≠ p ∧ r ≠ q ∧
    rom.setfCtrl = oneBit p ||| oneBit q ∧ rom.triBit = oneBit r := by
  simp only [Rom28.wellFormed, Bool.and_eq_true, decide_eq_true_eq, bitCount_eq_two_iff, bitCount_eq_one_iff]
  constructor
  · rintro ⟨⟨⟨p, hp, q, hq, hne, hctrl⟩, r, hr, htri⟩, hdisj⟩
    rw [hctrl, htri, oneBit_and_twoBits_eq_zero_iff hp hq hr] at hdisj
    obtain ⟨hrp, hrq⟩ := hdisj
    exact ⟨p, q, r, hp, hq, hr, hne, hrp, hrq, hctrl, htri⟩
  · rintro ⟨p, q, r, hp, hq, hr, hne, hrp, hrq, hctrl, htri⟩
    refine ⟨⟨⟨p, hp, q, hq, hne, hctrl⟩, r, hr, htri⟩, ?_⟩
    rw [hctrl, htri, oneBit_and_twoBits_eq_zero_iff hp hq hr]
    exact ⟨hrp, hrq⟩

/-! ### Positions that skip others -/

/-- The number of position `q` among the positions that skip `p`. -/
def positionSkipping (p q : Nat) : Nat := if q < p then q else q - 1

theorem skipPosition_positionSkipping {p q : Nat} (h : q ≠ p) : skipPosition p (positionSkipping p q) = q := by
  unfold skipPosition positionSkipping
  split_ifs <;> omega

theorem positionSkipping_lt {n p q : Nat} (h : q ≠ p) (hp : p < n + 1) (hq : q < n + 1) : positionSkipping p q < n := by
  unfold positionSkipping
  split_ifs <;> omega

theorem positionSkipping_ne {low high q : Nat} (hlt : low < high) (hlow : q ≠ low) (hhigh : q ≠ high) : positionSkipping high q ≠ low := by
  unfold positionSkipping
  split_ifs <;> omega

theorem skipPosition_ne (p k : Nat) : skipPosition p k ≠ p := by
  unfold skipPosition
  split_ifs <;> omega

theorem skipPosition_lt {n k : Nat} (p : Nat) (h : k < n) : skipPosition p k < n + 1 := by
  unfold skipPosition
  split_ifs <;> omega

/-- Skipping the smaller position first and the larger one then avoids both. -/
theorem skipPosition_skipPosition_ne {low high : Nat} (k : Nat) (hlt : low < high) : skipPosition high (skipPosition low k) ≠ low := by
  unfold skipPosition
  split_ifs <;> omega

/-! ### ROM choices -/

theorem ctrlBit_lt (c : RomChoice) : c.ctrlBit < 16 := skipPosition_lt _ c.ctrlB.isLt

theorem triPosition_lt (c : RomChoice) : c.triPosition < 16 := skipPosition_lt _ (skipPosition_lt _ c.tri.isLt)

theorem ctrlBit_ne_ctrlA (c : RomChoice) : c.ctrlBit ≠ c.ctrlA.val := skipPosition_ne _ _

theorem triPosition_ne (c : RomChoice) : c.triPosition ≠ c.ctrlA.val ∧ c.triPosition ≠ c.ctrlBit := by
  have hlt : min c.ctrlA.val c.ctrlBit < max c.ctrlA.val c.ctrlBit := min_lt_max.2 (ctrlBit_ne_ctrlA c).symm
  have hmax : c.triPosition ≠ max c.ctrlA.val c.ctrlBit := skipPosition_ne _ _
  have hmin : c.triPosition ≠ min c.ctrlA.val c.ctrlBit := skipPosition_skipPosition_ne _ hlt
  omega

theorem toRom_wellFormed (c : RomChoice) : c.toRom.wellFormed = true :=
  (Rom28.wellFormed_iff _).2 ⟨c.ctrlA.val, c.ctrlBit, c.triPosition, c.ctrlA.isLt, ctrlBit_lt c, triPosition_lt c, (ctrlBit_ne_ctrlA c).symm,
    (triPosition_ne c).1, (triPosition_ne c).2, rfl, rfl⟩

/-- The choice with a ROM's unconstrained words and three positions. -/
def Rom28.choiceAt (rom : Rom28) (ctrlA : Fin 16) (ctrlB : Fin 15) (tri : Fin 14) : RomChoice where
  init0 := rom.init0
  init1 := rom.init1
  init2 := rom.init2
  init3 := rom.init3
  init4 := rom.init4
  init5 := rom.init5
  setfPhase := rom.setfPhase
  setfRestore := rom.setfRestore
  ctrlA := ctrlA
  ctrlB := ctrlB
  tri := tri

theorem toRom_choiceAt {rom : Rom28} {a : Fin 16} {b : Fin 15} {t : Fin 14}
    (hctrl : rom.setfCtrl = oneBit a.val ||| oneBit (rom.choiceAt a b t).ctrlBit)
    (htri : rom.triBit = oneBit (rom.choiceAt a b t).triPosition) : (rom.choiceAt a b t).toRom = rom := by
  rw [RomChoice.toRom, Rom28.mk.injEq]
  exact ⟨rfl, rfl, rfl, rfl, rfl, rfl, hctrl.symm, htri.symm, rfl, rfl⟩

/-- Any three different positions are those of a choice: number each among the positions that skip the earlier ones. -/
theorem exists_toRom_eq {rom : Rom28} (h : rom.wellFormed = true) : ∃ c : RomChoice, c.toRom = rom := by
  obtain ⟨p, q, r, hp, hq, hr, hpq, hrp, hrq, hctrl, htri⟩ := rom.wellFormed_iff.1 h
  have hlt : min p q < max p q := min_lt_max.2 hpq
  have hmin : r ≠ min p q := by omega
  have hmax : r ≠ max p q := by omega
  have hmin' : positionSkipping (max p q) r ≠ min p q := positionSkipping_ne hlt hmin hmax
  have hb : positionSkipping p q < 15 := positionSkipping_lt hpq.symm hp hq
  have hr' : positionSkipping (max p q) r < 15 := positionSkipping_lt hmax (max_lt hp hq) hr
  have ht : positionSkipping (min p q) (positionSkipping (max p q) r) < 14 := positionSkipping_lt hmin' (by omega) hr'
  have hbit : (rom.choiceAt ⟨p, hp⟩ ⟨_, hb⟩ ⟨_, ht⟩).ctrlBit = q := skipPosition_positionSkipping hpq.symm
  have hposition : (rom.choiceAt ⟨p, hp⟩ ⟨_, hb⟩ ⟨_, ht⟩).triPosition = r := by
    rw [RomChoice.triPosition, hbit]
    change skipPosition (max p q) (skipPosition (min p q) (positionSkipping (min p q) (positionSkipping (max p q) r))) = r
    rw [skipPosition_positionSkipping hmin', skipPosition_positionSkipping hmax]
  exact ⟨_, toRom_choiceAt (hctrl.trans (by rw [hbit])) (htri.trans (by rw [hposition]))⟩

/-- Settles O35: the constraints say that the three positions are different, which those of every choice are, and which is all a choice needs. -/
theorem romIsAnyRomThatMeetsItsConstraints : Obligations.RomIsAnyRomThatMeetsItsConstraints := by
  unfold Obligations.RomIsAnyRomThatMeetsItsConstraints
  exact ⟨toRom_wellFormed Config.romChoice, fun _ => exists_toRom_eq⟩

end Sys2Proof
end

section
/-! PROOFS. The quantizer (O16 to O24): the exact quotient over the divisor of R126 and its wrap (R120 to R124, R131), the command that queues the
word (R130), and the fixed-width datapath (R125 to R129), each stage equal to the number it carries. -/

namespace Sys2Proof.Machine

/-! ### The divisor and the dividend (R121, R126, R127) -/

/-- The divisor is the effective clock, scaled by `2^31`. -/
theorem divisor_cast (clk : Nat) (c : Word) : (divisor clk c : Int) = clk * (2 ^ 31 - c.toInt) := by
  rw [divisor, Nat.cast_mul, (calFactor_spec c).2.2]

theorem divisor_pos {clk : Nat} (c : Word) (h : 1 ≤ clk) : 0 < divisor clk c := Nat.pos_of_ne_zero (divisor_ne_zero c h)

theorem divisor_le (clk c : Word) : divisor clk.toNat c ≤ (2 ^ 32 - 1) * 2 ^ 32 :=
  Nat.mul_le_mul (Nat.le_sub_one_of_lt clk.isLt) (calFactor_spec c).2.1

theorem divisor_zero_calibration (clk : Nat) : divisor clk 0#32 = clk * 2 ^ 31 := rfl

/-- A positive calibration lowers the effective clock. -/
theorem divisor_le_of_positive_calibration (clk : Nat) {c : Word} (h : 0 < c.toInt) : divisor clk c ≤ divisor clk 0#32 := by
  have hc : calFactor c ≤ 2 ^ 31 := by
    have := (calFactor_spec c).2.2
    omega
  exact Nat.mul_le_mul_left clk hc

theorem dividend_eq (f n : Nat) : dividend f n = f * 2 ^ 31 * 2 ^ n := by
  rw [dividend, pow_add]
  ring

theorem dividend_lt {f : Word} {n : Nat} (h : n = 28 ∨ n = 32) : dividend f.toNat n < 2 ^ 95 := by
  have hf : f.toNat < 2 ^ 32 := f.isLt
  rcases h with rfl | rfl <;> simp only [dividend] <;> omega

/-! ### The wrap (R123) -/

theorem quantize_lt (f clk : Nat) (c : Word) (n : Nat) : quantize f clk c n < 2 ^ n := Nat.mod_lt _ (Nat.two_pow_pos n)

/-- The exact quotient needs more than `n` bits exactly when the frequency reaches the effective clock. -/
theorem two_pow_le_exactQuotient_iff (f n : Nat) {clk : Nat} (c : Word) (h : 1 ≤ clk) :
    2 ^ n ≤ dividend f n / divisor clk c ↔ divisor clk c ≤ f * 2 ^ 31 := by
  rw [Nat.le_div_iff_mul_le (divisor_pos c h), dividend_eq, mul_comm]
  exact Nat.mul_le_mul_right_iff (Nat.two_pow_pos n)

/-- The scaled effective clock on integers, as the statements write it, is the divisor. -/
theorem inRange_iff (f clk : Nat) (c : Word) : (f : Int) * 2 ^ 31 < clk * (2 ^ 31 - c.toInt) ↔ f * 2 ^ 31 < divisor clk c := by
  rw [← divisor_cast]
  exact_mod_cast Iff.rfl

/-- Below the effective clock the word is the exact quotient. -/
theorem quantize_inRange {f clk : Nat} {c : Word} (n : Nat) (hclk : 1 ≤ clk) (h : f * 2 ^ 31 < divisor clk c) :
    quantize f clk c n = dividend f n / divisor clk c := by
  have hlt : dividend f n / divisor clk c < 2 ^ n := by
    rwa [← not_le, two_pow_le_exactQuotient_iff f n c hclk, not_le]
  rw [quantize_eq f n c hclk, Nat.mod_eq_of_lt hlt]

/-! ### The properties of the word (R122, R131) -/

/-- The formula of R122, with numerator and denominator scaled by `2^31`. -/
theorem rational_formula_eq (f clk n : Nat) (c : Word) :
    ((f : ℚ) * 2 ^ n) / ((clk : ℚ) * (1 - (c.toInt : ℚ) / 2 ^ 31)) = (dividend f n : ℚ) / (divisor clk c : ℚ) := by
  have hnum : (dividend f n : ℚ) = f * 2 ^ n * 2 ^ 31 := by
    rw [dividend_eq]
    push_cast
    ring
  have hden : (divisor clk c : ℚ) = clk * (1 - c.toInt / 2 ^ 31) * 2 ^ 31 := by
    have h : (divisor clk c : ℚ) = clk * (2 ^ 31 - c.toInt) := by exact_mod_cast divisor_cast clk c
    rw [h]
    ring
  rw [hnum, hden, mul_div_mul_right _ _ (by positivity)]

/-- Settles O17: the rational formula is the dividend over the divisor, and the floor of a quotient of integers is their division. -/
theorem quantizeIsTheRationalFormulaRoundedDown : Obligations.QuantizeIsTheRationalFormulaRoundedDown := by
  unfold Obligations.QuantizeIsTheRationalFormulaRoundedDown
  intro f clk n c hclk
  have hword : (quantize f clk c n : Int) = (dividend f n : Int) / (divisor clk c : Int) % 2 ^ n := by
    rw [quantize_eq f n c hclk]
    push_cast
    rfl
  constructor
  · rw [hword, rational_formula_eq]
    congr 1
    exact (Rat.floor_natCast_div_natCast (dividend f n) (divisor clk c)).symm
  · rw [hword, divisor_cast, dividend]
    push_cast
    rfl

/-- Settles O18: the bounds of the two factors of the product, and a shift by 59 or 63 of a 32-bit frequency. -/
theorem divisorIsNeverZeroAndOperandsFit : Obligations.DivisorIsNeverZeroAndOperandsFit := by
  unfold Obligations.DivisorIsNeverZeroAndOperandsFit
  exact fun _ clk c _ hclk hn => ⟨divisor_pos c hclk, divisor_le clk c, dividend_lt hn⟩

/-- Settles O20: both comparisons are between the divisor and the scaled frequency. -/
theorem wordWrapsExactlyAtTheEffectiveClock : Obligations.WordWrapsExactlyAtTheEffectiveClock := by
  unfold Obligations.WordWrapsExactlyAtTheEffectiveClock
  intro f clk c n hclk _
  refine ⟨quantize_lt _ _ _ _, ?_, fun h => quantize_inRange n hclk ((inRange_iff _ _ _).1 h)⟩
  rw [two_pow_le_exactQuotient_iff _ n c hclk, ← not_lt, ← inRange_iff, not_lt]

/-- Settles O21: within range both words are exact quotients by the same divisor. -/
theorem wordIsMonotoneInFrequencyWithinRange : Obligations.WordIsMonotoneInFrequencyWithinRange := by
  unfold Obligations.WordIsMonotoneInFrequencyWithinRange
  intro f g clk c n hclk _ hfg hrange
  have hg : g.toNat * 2 ^ 31 < divisor clk.toNat c := (inRange_iff _ _ _).1 hrange
  have hf : f.toNat * 2 ^ 31 < divisor clk.toNat c := (Nat.mul_le_mul_right _ hfg).trans_lt hg
  rw [quantize_inRange n hclk hf, quantize_inRange n hclk hg]
  exact Nat.div_le_div_right (Nat.mul_le_mul_right _ hfg)

/-- Settles O22: within range both words are exact quotients of the same dividend, and the calibration makes the divisor no larger. -/
theorem positiveCalibrationNeverLowersTheWord : Obligations.PositiveCalibrationNeverLowersTheWord := by
  unfold Obligations.PositiveCalibrationNeverLowersTheWord
  intro f clk c n hclk _ hc hrange
  have hcal : f.toNat * 2 ^ 31 < divisor clk.toNat c := (inRange_iff _ _ _).1 hrange
  have hle : divisor clk.toNat c ≤ divisor clk.toNat 0#32 := divisor_le_of_positive_calibration _ hc
  rw [quantize_inRange n hclk hcal, quantize_inRange n hclk (hcal.trans_le hle)]
  exact Nat.div_le_div_left hle (divisor_pos c hclk)

/-- A quarter of the clock gives a quarter of the accumulator. -/
theorem quantize_quarter {k : Nat} (n : Nat) (h : 1 ≤ k) : quantize k (4 * k) 0#32 (n + 2) = 2 ^ n := by
  have hrange : k * 2 ^ 31 < divisor (4 * k) 0#32 := by
    rw [divisor_zero_calibration]
    omega
  have hdividend : dividend k (n + 2) = 2 ^ n * divisor (4 * k) 0#32 := by
    rw [dividend_eq, divisor_zero_calibration]
    ring
  rw [quantize_inRange _ (by omega) hrange, hdividend, Nat.mul_div_cancel _ (divisor_pos _ (by omega))]

theorem quantize_zero_frequency {clk : Nat} (c : Word) (n : Nat) (h : 1 ≤ clk) : quantize 0 clk c n = 0 := by
  simp [quantize_eq 0 n c h, dividend]

/-- Settles O23: a clock divisible by 4 is four times its quarter, and a dividend of 0 has the quotient 0. -/
theorem quarterClockAndZeroFrequencyAreExact : Obligations.QuarterClockAndZeroFrequencyAreExact := by
  unfold Obligations.QuarterClockAndZeroFrequencyAreExact
  constructor
  · intro clk hclk hmod
    obtain ⟨k, hk⟩ := Nat.dvd_of_mod_eq_zero hmod
    have hk1 : 1 ≤ k := by omega
    rw [hk, Nat.mul_div_cancel_left k (by decide)]
    exact ⟨quantize_quarter 30 hk1, quantize_quarter 26 hk1⟩
  · exact fun clk c hclk => ⟨quantize_zero_frequency c 28 hclk, quantize_zero_frequency c 32 hclk⟩

/-- Settles O24: within range the word is the exact quotient, which times the divisor is at most the dividend, and one more times it is above. -/
theorem wordIsLessThanOneStepBelowTheRequest : Obligations.WordIsLessThanOneStepBelowTheRequest := by
  unfold Obligations.WordIsLessThanOneStepBelowTheRequest
  intro f clk c n hclk _ hrange
  rw [quantize_inRange n hclk ((inRange_iff _ _ _).1 hrange), ← divisor_cast]
  constructor
  · exact_mod_cast Nat.div_mul_le_self (dividend f.toNat n) (divisor clk.toNat c)
  · have h : dividend f.toNat n < divisor clk.toNat c * (dividend f.toNat n / divisor clk.toNat c + 1) :=
      Nat.lt_mul_div_succ _ (divisor_pos c hclk)
    rw [mul_comm] at h
    exact_mod_cast h

/-! ### The command (R130) -/

/-- Settles O16: the acceptance check has only the clock left to reject, and the queued word is the one written out. -/
theorem quantizeQueuesTheWordFromStagingRegisters : Obligations.QuantizeQueuesTheWordFromStagingRegisters := by
  unfold Obligations.QuantizeQueuesTheWordFromStagingRegisters
  intro s hq hr
  have h28 : s.acceptCheck Command.quantize28.word = none := by rw [acceptCheck_quantize28 s hq, if_neg hr]
  have h32 : s.acceptCheck Command.quantize32.word = none := by rw [acceptCheck_quantize32 s hq, if_neg hr]
  rw [← tuningWord_eq _ _ _ hr, ← tuningWord_eq _ _ _ hr]
  exact ⟨congrArg _ (command_accepted s h28), congrArg _ (command_accepted s h32)⟩

/-! ### The fixed-width datapath (R125 to R129) -/

/-- The width that the datapath's flag selects: `qN`. -/
def datapathWidth (wide : Bool) : Nat := if wide then 32 else 28

theorem datapathWidth_cases (wide : Bool) : datapathWidth wide = 28 ∨ datapathWidth wide = 32 := by
  cases wide <;> decide

/-- R126: 33 bits hold the calibration factor. -/
theorem calFactorBits_toNat (c : Word) : (calFactorBits c).toNat = calFactor c := by
  obtain ⟨_, hle, hcast⟩ := calFactor_spec c
  have hbits : calFactorBits c = BitVec.ofNat 33 (calFactor c) := by
    have hone : BitVec.ofNat 33 (2 ^ 31) = BitVec.ofInt 33 (2 ^ 31) := by decide
    rw [← BitVec.ofInt_natCast, hcast, sub_eq_add_neg, BitVec.ofInt_add, BitVec.ofInt_neg, ← BitVec.sub_eq_add_neg, ← hone]
    rfl
  rw [hbits, BitVec.toNat_ofNat, Nat.mod_eq_of_lt (by omega)]

/-- R126: 64 bits hold the product. -/
theorem multiplierBits_toNat (clk c : Word) : (multiplierBits clk c).toNat = divisor clk.toNat c := by
  have hclk : clk.toNat < 2 ^ 32 := clk.isLt
  have hcal : calFactor c ≤ 2 ^ 32 := (calFactor_spec c).2.1
  have hproduct : clk.toNat * calFactor c < 2 ^ 64 := (divisor_le clk c).trans_lt (by decide)
  rw [multiplierBits, BitVec.toNat_mul, BitVec.toNat_setWidth, BitVec.toNat_setWidth, calFactorBits_toNat,
    Nat.mod_eq_of_lt (by omega : clk.toNat < 2 ^ 64), Nat.mod_eq_of_lt (by omega : calFactor c < 2 ^ 64), Nat.mod_eq_of_lt hproduct, divisor]

/-- R127: 95 bits hold the shifted frequency. -/
theorem shifterBits_toNat (f : Word) (wide : Bool) : (shifterBits f wide).toNat = dividend f.toNat (datapathWidth wide) := by
  have hf : f.toNat < 2 ^ 32 := f.isLt
  have hshift : (if wide then 63 else 59) = datapathWidth wide + 31 := by cases wide <;> rfl
  rw [shifterBits, BitVec.toNat_shiftLeft, BitVec.toNat_setWidth, Nat.mod_eq_of_lt (by omega : f.toNat < 2 ^ 95), Nat.shiftLeft_eq, hshift]
  exact Nat.mod_eq_of_lt (dividend_lt (datapathWidth_cases wide))

/-- R128: the divider's two operands lose nothing in 95 bits. -/
theorem dividerBits_toNat (num : BitVec 95) (d : BitVec 64) : (dividerBits num d).toNat = num.toNat / d.toNat := by
  have hd : d.toNat < 2 ^ 64 := d.isLt
  rw [dividerBits, BitVec.toNat_udiv, BitVec.toNat_setWidth, Nat.mod_eq_of_lt (by omega)]

/-- R129: truncation takes the quotient modulo `2^N`. -/
theorem truncateBits_eq (q : BitVec 95) (wide : Bool) : truncateBits q wide = BitVec.ofNat 32 (q.toNat % 2 ^ datapathWidth wide) := by
  apply BitVec.eq_of_toNat_eq
  cases wide with
  | false => simp [truncateBits, datapathWidth]
  | true => simp [truncateBits, datapathWidth]

/-- The stages put together: the datapath computes the word of the selected width. -/
theorem quantizerDatapath_eq (f c : Word) (wide : Bool) {clk : Word} (h : clk ≠ 0#32) :
    quantizerDatapath f clk c wide = tuningWord f clk c (datapathWidth wide) := by
  rw [quantizerDatapath, truncateBits_eq, dividerBits_toNat, shifterBits_toNat, multiplierBits_toNat, tuningWord,
    quantize_eq _ _ _ (one_le_toNat h)]

/-- Settles O19: at each of the two widths. -/
theorem datapathComputesTheTuningWord : Obligations.DatapathComputesTheTuningWord := by
  unfold Obligations.DatapathComputesTheTuningWord
  exact fun qf _ qcal h => ⟨quantizerDatapath_eq qf qcal false h, quantizerDatapath_eq qf qcal true h⟩

end Sys2Proof.Machine
end

section
/-! PROOFS. Family 41_protocol_encoder.md: the commands NOP, CONFIGURE, INITIALIZE and SET_FREQUENCY (O12 to O15), what is sent for the last two
(O27, O29, O30) and that it is sent whole (O43, O44), when the load line rises (O53), and when the encoder becomes READY (O55). -/

namespace Sys2Proof.Machine

/-! ### Commands, accepted and rejected (R150 to R175) -/

/-- A command whose acceptance check fails writes the code to `err` and nothing else (R261). -/
theorem exec_rejected {s : State} {c : Command} {e : ErrCode} (h : s.acceptCheck c.word = some e) :
    exec c.instr s = .next { s with err := e } := by
  cases c <;> exact congrArg _ (command_rejected s h)

theorem exec_busy {s : State} (c : Command) (hq : s.queue ≠ []) : exec c.instr s = .next { s with err := .busy } :=
  exec_rejected (acceptCheck_busy s c.word hq)

/-- Settles O12: with the queue empty no check is left to reject NOP, and its effect is none. -/
theorem nopClearsErr : Obligations.NopClearsErr := by
  unfold Obligations.NopClearsErr
  exact ⟨rfl, fun s => ⟨fun hq => congrArg _ (command_accepted s (acceptCheck_nop s hq)), exec_busy .nop⟩⟩

/-- An accepted CONFIGURE (R153). -/
theorem exec_cmdConfigure_accepted {s : State} {v : Variant} (hq : s.queue = []) (hvalid : s.cfgValid = false)
    (hclk : s.refclk ≠ 0#32) (hv : selVariant s.sel = some v) :
    exec .cmdConfigure s = .next { s with cfgVariant := v, cfgRefclk := s.refclk, cfgValid := true, err := .none } := by
  have hsel : s.sel ≠ 3#2 := fun h => by simp [(selVariant_none_iff s.sel).2 h] at hv
  have hcheck : s.acceptCheck Command.configure.word = none := by simp [acceptCheck_configure s hq, hvalid, hsel, hclk]
  have hlatch := congrArg (State.setErr · .none) (latchConfig_some s hv)
  exact congrArg _ ((command_accepted s hcheck).trans hlatch)

/-- Settles O13: an accepted CONFIGURE latches the variant its selector names; each rejection is the first check that fails. -/
theorem configureLatchesVariantAndClock : Obligations.ConfigureLatchesVariantAndClock := by
  unfold Obligations.ConfigureLatchesVariantAndClock
  refine ⟨rfl, fun s => ⟨fun v hq hvalid hclk hsel => ?_, exec_busy .configure, fun hq hvalid => ?_, fun hq hvalid hsel => ?_,
    fun hq hvalid hsel hclk => ?_⟩⟩
  · have hv : selVariant s.sel = some v := by rcases hsel with ⟨hs, rfl⟩ | ⟨hs, rfl⟩ | ⟨hs, rfl⟩ <;> rw [hs] <;> rfl
    exact exec_cmdConfigure_accepted hq hvalid hclk hv
  all_goals
    refine exec_rejected (c := .configure) ?_
    simp [acceptCheck_configure s hq, *]

theorem exec_cmdInitialize_accepted {s : State} (hq : s.queue = []) (hvalid : s.cfgValid = true) :
    exec .cmdInitialize s = .next (s.queueInit.setErr .none) := by
  have hcheck : s.acceptCheck Command.init.word = none := by simp [acceptCheck_init s hq, hvalid]
  exact congrArg _ (command_accepted s hcheck)

/-- Settles O14: the queued program is that of the configured variant. -/
theorem initializeQueuesTheVariantsSequence : Obligations.InitializeQueuesTheVariantsSequence := by
  unfold Obligations.InitializeQueuesTheVariantsSequence
  exact fun s hq hvalid => exec_cmdInitialize_accepted hq hvalid

theorem exec_cmdSetFrequency_accepted {s : State} (hq : s.queue = []) (hvalid : s.cfgValid = true) (henc : s.enc = .ready) :
    exec .cmdSetFrequency s = .next (s.queueSetf.setErr .none) := by
  have hcheck : s.acceptCheck Command.setFrequency.word = none := by simp [acceptCheck_setFrequency s hq, hvalid, henc]
  exact congrArg _ (command_accepted s hcheck)

theorem accumulatorBits_eq (v : Variant) : accumulatorBits v = if v = .v28 then 28 else 32 := by
  cases v <;> rfl

/-- The word of SET_FREQUENCY, written out at the width of the configured variant (R170, R122). -/
theorem setfWord_eq {s : State} {n : Nat} (hclk : s.cfgRefclk ≠ 0#32) (hn : n = if s.cfgVariant = .v28 then 28 else 32) :
    s.setfWord =
      BitVec.ofNat 32 (s.freq.toNat * 2 ^ (n + 31) / (s.cfgRefclk.toNat * (2 ^ 31 - s.cal.toInt).toNat) % 2 ^ n) := by
  rw [State.setfWord, accumulatorBits_eq, ← hn, tuningWord_eq _ _ _ hclk]

/-- Settles O15: the accepted command queues the word written out and the variant's frame program; each rejection is the first check that fails. -/
theorem setFrequencyQueuesTheWordAndTheFrameProgram : Obligations.SetFrequencyQueuesTheWordAndTheFrameProgram := by
  unfold Obligations.SetFrequencyQueuesTheWordAndTheFrameProgram
  intro s
  refine ⟨fun n w hq hvalid henc hclk hn hw => ?_, exec_busy .setFrequency, fun hq hvalid => ?_, fun hq hvalid henc => ?_⟩
  · rw [exec_cmdSetFrequency_accepted hq hvalid henc, State.queueSetf, (setfWord_eq hclk hn).trans hw.symm]
    rfl
  all_goals
    refine exec_rejected (c := .setFrequency) ?_
    simp [acceptCheck_setFrequency s hq, *]

/-! ### The frames a receiver takes (R162, R180, R182) -/

theorem shiftIn16_getLsbD (r : BitVec 16) (b : Bool) {k : Nat} (hk : k < 16) :
    (shiftIn16 r b).getLsbD k = if k = 0 then b else r.getLsbD (k - 1) := by
  have happend : (shiftIn16 r b).getLsbD k = (r.extractLsb' 0 15 ++ BitVec.ofBool b).getLsbD k := rfl
  rw [happend, BitVec.getLsbD_append, BitVec.getLsbD_extractLsb']
  by_cases h0 : k = 0
  · simp [h0]
  · simp [h0, show ¬k < 1 by omega, show k - 1 < 15 by omega]

/-- The receiver holds the last 16 bits it took, the last one lowest. -/
theorem receive16_getLsbD (bits : List Bool) {k : Nat} (hk : k < 16) : (receive16 bits).getLsbD k = bits.reverse.getD k false := by
  induction bits using List.reverseRecOn generalizing k with
  | nil => simp [receive16]
  | append_singleton bits b ih =>
    have hlast : receive16 (bits ++ [b]) = shiftIn16 (receive16 bits) b := by simp [receive16]
    rw [hlast, shiftIn16_getLsbD _ _ hk, List.reverse_append]
    cases k with
    | zero => rfl
    | succ k => exact ih (by omega)

/-- A 16-bit receiver gets back the value that was sent MSB first (R64). -/
theorem receive16_frameBits (val : BitVec 16) : receive16 (frameBits val 16 .msb) = val := by
  apply BitVec.eq_of_getLsbD_eq
  intro k hk
  rw [receive16_getLsbD _ hk]
  simp [frameBits, bitPositions, hk]

/-- Bits sent are added to those not yet committed, and the data line stays at the last one. -/
theorem committedFrames_sendBits (v : Variant) (d : Bool) (acc bits : List Bool) (es : List BusEvent) :
    committedFrames d acc (busEvents (bits.flatMap (sendBit v)) ++ es) = committedFrames (bits.getLastD d) (acc ++ bits) es := by
  induction bits generalizing d acc with
  | nil => simp
  | cons b bits ih =>
    rw [List.flatMap_cons, busEvents_append, List.append_assoc, committedFrames_sendBit, ih, List.getLastD_cons, List.append_assoc]
    rfl

/-- A row of V28 frames is taken frame by frame, each at its own commit. -/
theorem committedFrames_frames28 (d : Bool) (vals : List (BitVec 16)) :
    committedFrames d [] (busEvents (vals.flatMap frame28)) = vals.map (frameBits · 16 .msb) := by
  induction vals generalizing d with
  | nil => rfl
  | cons val vals ih =>
    rw [List.flatMap_cons, frame28, sendFrame, busEvents_append, busEvents_append, List.append_assoc, committedFrames_sendBits,
      committedFrames_commitPulse, ih]
    rfl

/-- What the receiver of a row of V28 frames holds at each commit: the frames' values, 16 bits each. -/
theorem receive_frames28 (d : Bool) (vals : List (BitVec 16)) :
    (committedFrames d [] (busEvents (vals.flatMap frame28))).map receive16 = vals ∧
    (committedFrames d [] (busEvents (vals.flatMap frame28))).map List.length = vals.map fun _ => 16 := by
  rw [committedFrames_frames28, List.map_map, List.map_map]
  constructor
  · calc vals.map (receive16 ∘ (frameBits · 16 .msb)) = vals.map id := List.map_congr_left fun val _ => receive16_frameBits val
      _ = vals := List.map_id vals
  · exact List.map_congr_left fun val _ => frameBits_length val 16 .msb

theorem init28_eq_frames (rom : Rom28) :
    init28 rom = [rom.init0, rom.init1, rom.init2, rom.init3, rom.init4, rom.init5].flatMap frame28 := by
  simp [init28]

theorem setf28_eq_frames (rom : Rom28) (w : Word) (wave : Bool) :
    setf28 rom w wave = [ctrl28 rom wave, frameLo w, frameHi w, rom.setfPhase, rom.setfRestore].flatMap frame28 := by
  simp [setf28]

/-- Settles O29: INIT28 is the row of the six ROM frames. -/
theorem initialize28SendsTheSixRomFrames : Obligations.Initialize28SendsTheSixRomFrames := by
  unfold Obligations.Initialize28SendsTheSixRomFrames
  intro rom d
  rw [init28_eq_frames]
  exact receive_frames28 d _

theorem frameLo_eq_or (w : Word) : frameLo w = 0x4000#16 ||| (w &&& 0x3FFF#32).setWidth 16 := by
  rw [frameLo, frame_01_eq_or, setWidth_low14]

theorem frameHi_eq_or (w : Word) : frameHi w = 0x4000#16 ||| ((w >>> 14) &&& 0x3FFF#32).setWidth 16 := by
  rw [frameHi, frame_01_eq_or, setWidth_low14, extract_high14]

/-- Settles O27: SETF28 is a row of five frames, the two of the word written with masks. -/
theorem setFrequency28SendsFiveCommittedFrames : Obligations.SetFrequency28SendsFiveCommittedFrames := by
  unfold Obligations.SetFrequency28SendsFiveCommittedFrames
  intro rom w wave d
  rw [setf28_eq_frames, ← frameLo_eq_or, ← frameHi_eq_or]
  exact receive_frames28 d _

/-! ### The initialization stream of the 32-bit family (R164, R165) -/

theorem sendBit_of_settles {v : Variant} (h : settles v = true) (b : Bool) : sendBit v b = [.data b, .clk true, .clk false, .settle] := by
  simp [sendBit, h]

theorem sendFrame_lsb_of_settles {v : Variant} (h : settles v = true) {k : Nat} (val : BitVec k) (n : Nat) :
    sendFrame v val n .lsb = (List.range n).flatMap fun i => [.data (val.getLsbD i), .clk true, .clk false, .settle] := by
  simp only [sendFrame, frameBits, bitPositions, List.flatMap_map, sendBit_of_settles h]

/-- Settles O30: both variants settle after each bit, and every bit of the word 0 is 0. -/
theorem initialize32SendsStrobePulseZerosAndModeByte : Obligations.Initialize32SendsStrobePulseZerosAndModeByte := by
  unfold Obligations.Initialize32SendsStrobePulseZerosAndModeByte
  intro v mode hv
  have hsettles : settles v = true := by rcases hv with rfl | rfl <;> rfl
  have hzeros : sendFrame v 0x00000000#32 32 .lsb = (List.replicate 32 [MicroStep.data false, .clk true, .clk false, .settle]).flatten := by
    rw [sendFrame_lsb_of_settles hsettles]
    rfl
  rw [init32, hzeros, sendFrame_lsb_of_settles hsettles]
  rfl

/-! ### A command sent whole, in the default order of agents (R211, log 1) -/

theorem busEvents_singleton (m : MicroStep) : busEvents [m] = (microStepEvent m).toList := by
  cases m <;> rfl

theorem performAll_append (s : State) (p q : List MicroStep) : s.performAll (p ++ q) = (s.performAll p).performAll q :=
  List.foldl_append ..

theorem performAll_word (s : State) {q : List MicroStep} (h : ∀ w, MicroStep.quant w ∉ q) : (s.performAll q).word = s.word := by
  induction q generalizing s with
  | nil => rfl
  | cons m q ih =>
    rw [performAll_cons, ih _ fun w hw => h w (List.mem_cons_of_mem _ hw)]
    cases m with
    | quant w => exact absurd (List.mem_cons_self ..) (h w)
    | _ => rfl

theorem performAll_enc (s : State) {q : List MicroStep} (h : MicroStep.setReady ∉ q) : (s.performAll q).enc = s.enc := by
  induction q generalizing s with
  | nil => rfl
  | cons m q ih =>
    rw [performAll_cons, ih _ fun hm => h (List.mem_cons_of_mem _ hm)]
    cases m with
    | setReady => exact absurd (List.mem_cons_self ..) h
    | _ => rfl

theorem frame28_length (val : BitVec 16) : (frame28 val).length = 50 := by
  simp [frame28, sendFrame_length, settles, commitPulse]

theorem setfProgram_length (rom : Rom28) (w : Word) (clkmul wave : Bool) (v : Variant) :
    (setfProgram rom w clkmul wave v).length = if v = .v28 then 250 else 162 := by
  cases v <;> simp [setfProgram, setf28, setf32, frame28_length, sendFrame_length, settles, commitPulse]

theorem initProgram_length (rom : Rom28) (mode : BitVec 8) (v : Variant) :
    (initProgram rom mode v).length = if v = .v28 then 300 else 166 := by
  cases v <;>
    simp [initProgram, init28, init32, frame28_length, sendFrame_length, settles, strobeClk, pulseLoad, commitPulse]

theorem quant_not_mem_setfProgram (rom : Rom28) (w : Word) (clkmul wave : Bool) (v : Variant) (x : Word) :
    MicroStep.quant x ∉ setfProgram rom w clkmul wave v := by
  cases v <;> simp [setfProgram, setf28, setf32, frame28, commitPulse, quant_not_mem_sendFrame]

theorem quant_not_mem_initProgram (rom : Rom28) (mode : BitVec 8) (v : Variant) (x : Word) :
    MicroStep.quant x ∉ initProgram rom mode v := by
  cases v <;> simp [initProgram, init28, init32, frame28, strobeClk, pulseLoad, commitPulse, quant_not_mem_sendFrame]

theorem nextTurn_of_idle {s : State} (hturns : s.turns = []) (hq : s.queue = []) : nextTurn s = .host := by
  simp [nextTurn, hturns, (busy_eq_false_iff s).2 hq]

/-- In an idle block the host's transaction runs first, and then the sequencer performs all of what it queued. -/
theorem runSteps_transaction {s u : State} {t : Transaction} {i : Instr} {rest : List HostOp} (hturns : s.turns = [])
    (hq : s.queue = []) (hprogram : s.program = .transaction t :: rest) (hdecode : decode t = .ok i)
    (hexec : exec i (s.setProgram rest) = .next u) :
    runSteps (1 + u.queue.length) s = .next ((u.performAll u.queue).setQueue []) ∧
      (u.performAll u.queue).trace = s.trace ++ busEvents u.queue ∧ (u.performAll u.queue).program = rest ∧
      (u.performAll u.queue).err = u.err := by
  obtain ⟨u', hu', heffect⟩ := exec_effect (s.setProgram rest) i
  cases hu'.symm.trans hexec
  obtain ⟨-, -, -, htrace, -, -, hprogram', hturns'⟩ := heffect.frame
  have htail : s.turns.tail = s.turns := by rw [hturns, List.tail_nil]
  have hstep : step s = .next u := by
    rw [step_runs hdecode (nextTurn_of_idle hturns hq) hprogram, htail, setTurns_self, hexec]
  obtain ⟨-, hkept, -, -, -, -, -, -, -, -, -, -, herr⟩ := fields_of_outsideSequencer_eq (performAll_outsideSequencer u u.queue)
  refine ⟨?_, ?_, hkept.trans hprogram', herr⟩
  · rw [Nat.add_comm, runSteps_succ _ hstep, runSteps_performAll (hturns'.trans hturns) rfl]
  · rw [performAll_trace, htrace]
    rfl

/-- Settles O43: the command queues Quant and the frame program, which has no other Quant and no SetReady. -/
theorem acceptedSetFrequencyIsSentWhole : Obligations.AcceptedSetFrequencyIsSentWhole := by
  unfold Obligations.AcceptedSetFrequencyIsSentWhole
  intro s rest n w hturns hq hprogram hvalid henc hclk hn hw
  have hword : (s.setProgram rest).setfWord = w := (setfWord_eq (s := s.setProgram rest) hclk hn).trans hw.symm
  have hqueue : ((s.setProgram rest).queueSetf.setErr .none).queue =
      .quant w :: setfProgram Config.rom28 w s.clkmul s.wave s.cfgVariant := by
    rw [← hword]
    rfl
  have hlength : (MicroStep.quant w :: setfProgram Config.rom28 w s.clkmul s.wave s.cfgVariant).length =
      if s.cfgVariant = .v28 then 251 else 163 := by
    rw [List.length_cons, setfProgram_length]
    split <;> rfl
  obtain ⟨hrun, htrace, hrest, herr⟩ := runSteps_transaction hturns hq hprogram (i := .cmdSetFrequency) rfl
    (exec_cmdSetFrequency_accepted (s := s.setProgram rest) hq hvalid henc)
  rw [hqueue] at hrun htrace hrest herr
  rw [hlength] at hrun
  refine ⟨_, hrun, ?_, htrace, rfl, ?_, herr, hrest⟩
  · exact performAll_word _ (quant_not_mem_setfProgram _ _ _ _ _)
  · exact (performAll_enc _ (setReady_not_mem_setfProgram _ _ _ _ _)).trans henc

/-- Settles O44: the command queues the initialization program, which has no Quant, and SetReady, which is performed last. -/
theorem acceptedInitializeIsSentWholeAndMakesReady : Obligations.AcceptedInitializeIsSentWholeAndMakesReady := by
  unfold Obligations.AcceptedInitializeIsSentWholeAndMakesReady
  intro s rest hturns hq hprogram hvalid
  have hqueue : ((s.setProgram rest).queueInit.setErr .none).queue =
      initProgram Config.rom28 Config.initModeByte s.cfgVariant ++ [.setReady] := rfl
  have hlength : (initProgram Config.rom28 Config.initModeByte s.cfgVariant ++ [MicroStep.setReady]).length =
      if s.cfgVariant = .v28 then 301 else 167 := by
    rw [List.length_append, initProgram_length]
    split <;> rfl
  have hquant : ∀ w, MicroStep.quant w ∉ initProgram Config.rom28 Config.initModeByte s.cfgVariant ++ [.setReady] := by
    simp [quant_not_mem_initProgram]
  obtain ⟨hrun, htrace, hrest, herr⟩ := runSteps_transaction hturns hq hprogram (i := .cmdInitialize) rfl
    (exec_cmdInitialize_accepted (s := s.setProgram rest) hq hvalid)
  rw [hqueue] at hrun htrace hrest herr
  rw [hlength] at hrun
  refine ⟨_, hrun, ?_, ?_, rfl, herr, performAll_word _ hquant, hrest⟩
  · rw [busEvents_append, busEvents_singleton, microStepEvent, Option.toList_none, List.append_nil] at htrace
    exact htrace
  · rw [State.setQueue_enc, performAll_append]
    rfl

/-! ### When the load line rises (R184) -/

theorem microStepEvent_eq_load {m : MicroStep} {b : Bool} (h : microStepEvent m = some (.load b)) : m = .load b := by
  cases m with
  | load c =>
    cases h
    rfl
  | _ => cases h

/-- A step that puts a load event at the end of the trace performs a pending load micro-step. -/
theorem queue_of_step_load {s t : State} {b : Bool} (hstep : step s = .next t) (htrace : t.trace = s.trace ++ [.load b]) :
    ∃ q, s.queue = .load b :: q := by
  rcases step_cases hstep with ⟨_, rfl⟩ | ⟨_, rfl⟩ | ⟨_, p, heffect⟩
  · rcases sequencerStep_cases (s.setTurns s.turns.tail) with ⟨_, hs⟩ | ⟨m, q, hq, hs⟩
    · rw [hs] at htrace
      simp at htrace
    · obtain ⟨hperformed, -⟩ := perform_setQueue (s.setTurns s.turns.tail) m q
      rw [hs, hperformed, busEvents_singleton] at htrace
      have hload : microStepEvent m = some (.load b) := by simpa using List.append_cancel_left htrace
      exact ⟨q, microStepEvent_eq_load hload ▸ hq⟩
  · simp at htrace
  · obtain ⟨-, -, -, hkept, -⟩ := heffect.frame
    rw [hkept] at htrace
    simp at htrace

/-- A pending rise of the load line commits a whole frame, or is the start pulse of INIT32 with no bit sent. -/
theorem openBits_of_framesOk {s : State} {q : List MicroStep} (hframes : s.framesOk) (hq : s.queue = .load true :: q) :
    openBits s.trace = commitWidth s.cfgVariant ∨
      (openBits s.trace = 0 ∧ s.cfgVariant ≠ .v28 ∧ s.queue = fromStartPulse s.cfgVariant) := by
  unfold State.framesOk at hframes
  rw [hq, commitsWhole_loadHigh, ← hq] at hframes
  simp only [Bool.and_eq_true, Bool.or_eq_true, beq_iff_eq, atStartPulse_iff] at hframes
  exact hframes.1

/-- Settles O53: the rise was pending, and the invariant says what stands uncommitted then. -/
theorem noPartialFrameIsEverCommitted : Obligations.NoPartialFrameIsEverCommitted := by
  unfold Obligations.NoPartialFrameIsEverCommitted
  intro s t ⟨_, _, _, hframes⟩ hstep htrace
  obtain ⟨q, hq⟩ := queue_of_step_load hstep htrace
  have hopen := openBits_of_framesOk hframes hq
  cases hv : s.cfgVariant with
  | v28 => simpa [hv, commitWidth] using hopen
  | v32 => simpa [hv, commitWidth, fromStartPulse] using hopen
  | v32m => simpa [hv, commitWidth, fromStartPulse] using hopen

/-! ### When the encoder becomes READY (R161) -/

theorem perform_enc {s : State} {m : MicroStep} (h : (s.perform m).enc ≠ s.enc) : m = .setReady := by
  cases m with
  | setReady => rfl
  | _ => exact absurd rfl h

/-- A well-shaped list of micro-steps has SetReady only at its end. -/
theorem eq_nil_of_pulsesShaped_setReady {c l : Bool} {q : List MicroStep} (h : pulsesShaped c l (.setReady :: q) = true) : q = [] := by
  simp only [pulsesShaped, Bool.and_eq_true, List.isEmpty_iff] at h
  exact h.1.2

/-- With SetReady first in a well-shaped queue, the sequencer's step makes the encoder READY and the queue empty. -/
theorem step_setReady {s : State} {q : List MicroStep} (hlines : s.linesOk) (hturn : nextTurn s = .sequencer)
    (hq : s.queue = .setReady :: q) : q = [] ∧ step s = .next ((s.setTurns s.turns.tail).setReady.setQueue []) := by
  unfold State.linesOk at hlines
  rw [hq] at hlines
  cases eq_nil_of_pulsesShaped_setReady hlines
  exact ⟨rfl, step_performs hturn hq⟩

theorem sequencerStep_enc {s : State} (h : s.sequencerStep.enc ≠ s.enc) : ∃ q, s.queue = .setReady :: q := by
  rcases sequencerStep_cases s with ⟨_, hs⟩ | ⟨m, q, hq, hs⟩
  · exact absurd (congrArg State.enc hs) h
  · rw [hs] at h
    exact ⟨q, perform_enc h ▸ hq⟩

theorem step_of_rst {s : State} (h : nextTurn s = .rst) : step s = .next (s.setTurns s.turns.tail).resetInput := by
  rw [step, h]
  rfl

theorem command_adds_no_setReady {s : State} (w : Word) {effect : State → State}
    (h : MicroStep.setReady ∈ (effect s).queue → MicroStep.setReady ∈ s.queue) :
    MicroStep.setReady ∈ (s.command w effect).queue → MicroStep.setReady ∈ s.queue := by
  rcases command_cases s w effect with ⟨e, _, hc⟩ | ⟨_, hc⟩
  · rw [hc]
    exact id
  · rw [hc]
    exact h

/-- No instruction but INITIALIZE adds a SetReady to the queue. -/
theorem exec_adds_no_setReady (s : State) {i : Instr} (h : i ≠ .cmdInitialize) :
    ∃ u, exec i s = .next u ∧ (MicroStep.setReady ∈ u.queue → MicroStep.setReady ∈ s.queue) := by
  cases i with
  | cmdInitialize => exact absurd rfl h
  | cmdNop => exact ⟨_, rfl, command_adds_no_setReady _ id⟩
  | cmdConfigure => exact ⟨_, rfl, command_adds_no_setReady _ fun hm => s.latchConfig_queue ▸ hm⟩
  | cmdSetFrequency =>
    refine ⟨_, rfl, command_adds_no_setReady _ fun hm => ?_⟩
    simp [State.queueSetf, setReady_not_mem_setfProgram] at hm
  | cmdQuantize28 => exact ⟨_, rfl, command_adds_no_setReady _ fun hm => by simp [State.queueQuantize] at hm⟩
  | cmdQuantize32 => exact ⟨_, rfl, command_adds_no_setReady _ fun hm => by simp [State.queueQuantize] at hm⟩
  | _ => exact ⟨_, rfl, id⟩

/-- Settles O55: of the micro-steps only SetReady writes `enc`, the host never does, and the invariant has SetReady only last. -/
theorem encoderBecomesReadyOnlyByTheLastMicroStep : Obligations.EncoderBecomesReadyOnlyByTheLastMicroStep := by
  unfold Obligations.EncoderBecomesReadyOnlyByTheLastMicroStep
  refine ⟨fun s t hinv hstep henc => ?_, fun s q hinv hturn hq => ?_, fun s hturn => ⟨_, step_of_rst hturn, rfl⟩,
    fun i s t hexec hmem => ?_⟩
  · obtain ⟨_, hlines, _, _⟩ := hinv
    rcases step_cases hstep with ⟨hturn, ht⟩ | ⟨hturn, rfl⟩ | ⟨_, p, heffect⟩
    · rw [ht] at henc
      obtain ⟨q, hq⟩ := sequencerStep_enc henc
      obtain ⟨rfl, hready⟩ := step_setReady hlines hturn hq
      cases hready.symm.trans hstep
      exact .inl ⟨hturn, hq, rfl, rfl⟩
    · exact .inr ⟨hturn, rfl⟩
    · obtain ⟨-, -, -, -, -, hkept, -⟩ := heffect.frame
      exact absurd hkept henc
  · obtain ⟨_, hlines, _, _⟩ := hinv
    obtain ⟨hnil, hready⟩ := step_setReady hlines hturn hq
    exact ⟨hnil, _, hready, rfl, rfl, status_getLsbD _ 2, status_getLsbD _ 0⟩
  · by_cases hi : i = .cmdInitialize
    · exact .inr hi
    · obtain ⟨u, hu, hkept⟩ := exec_adds_no_setReady s hi
      cases hu.symm.trans hexec
      exact .inl (hkept hmem)

end Sys2Proof.Machine
end

section
/-! PROOFS. Family 42_bit_transmitter.md: the invariant of the block (O50) and what it says of the lines (O51, O52), what a receiver of the
32-bit family's stream gets (O25, O26), the sizes of the programs (O31), and the shift-register sequencer (O33). -/

namespace Sys2Proof.Machine

/-! ### Every program is well-shaped and commits only whole frames (R184, R207 to R209) -/

/-- The bits of a frame leave both lines LOW, as they found them. -/
theorem pulsesShaped_sendFrame_append {k : Nat} (v : Variant) (val : BitVec k) (n : Nat) (o : BitOrder) {q : List MicroStep}
    (hq : pulsesShaped false false q = true) : pulsesShaped false false (sendFrame v val n o ++ q) = true :=
  pulsesShaped_append (pulsesShaped_sendFrame v val n o) (setReady_not_mem_sendFrame v val n o) hq

theorem pulsesShaped_frames28_append (vals : List (BitVec 16)) {q : List MicroStep} (hq : pulsesShaped false false q = true) :
    pulsesShaped false false (vals.flatMap frame28 ++ q) = true := by
  induction vals with
  | nil => exact hq
  | cons val vals ih =>
    rw [List.flatMap_cons, frame28, List.append_assoc, List.append_assoc]
    exact pulsesShaped_sendFrame_append _ _ _ _ ih

/-- Every V28 frame is committed whole. -/
theorem commitsWhole_frames28_append (vals : List (BitVec 16)) (q : List MicroStep) :
    commitsWhole .v28 0 (vals.flatMap frame28 ++ q) = commitsWhole .v28 0 q := by
  induction vals with
  | nil => rfl
  | cons val vals ih =>
    rw [List.flatMap_cons, frame28, List.append_assoc, List.append_assoc, commitsWhole_sendFrame, ← ih]
    rfl

theorem pulsesShaped_initProgram (rom : Rom28) (mode : BitVec 8) (v : Variant) :
    pulsesShaped false false (initProgram rom mode v ++ [.setReady]) = true := by
  have init32_shaped : ∀ u, pulsesShaped false false (init32 u mode ++ [.setReady]) = true := fun u => by
    simp only [init32, List.append_assoc]
    exact pulsesShaped_sendFrame_append _ _ _ _ (pulsesShaped_sendFrame_append _ _ _ _ rfl)
  cases v with
  | v28 =>
    rw [initProgram, init28_eq_frames]
    exact pulsesShaped_frames28_append _ rfl
  | v32 => exact init32_shaped .v32
  | v32m => exact init32_shaped .v32m

theorem pulsesShaped_setfProgram (rom : Rom28) (w : Word) (clkmul wave : Bool) (v : Variant) :
    pulsesShaped false false (setfProgram rom w clkmul wave v) = true := by
  have setf32_shaped : ∀ u, pulsesShaped false false (setf32 u w clkmul) = true := fun u => by
    simp only [setf32, List.append_assoc]
    exact pulsesShaped_sendFrame_append _ _ _ _ (pulsesShaped_sendFrame_append _ _ _ _ rfl)
  cases v with
  | v28 =>
    rw [setfProgram, setf28_eq_frames, ← List.append_nil (List.flatMap ..)]
    exact pulsesShaped_frames28_append _ rfl
  | v32 => exact setf32_shaped .v32
  | v32m => exact setf32_shaped .v32m

theorem commitsWhole_initProgram (rom : Rom28) (v : Variant) :
    commitsWhole v 0 (initProgram rom Config.initModeByte v ++ [.setReady]) = true := by
  by_cases hv : v = .v28
  · subst hv
    rw [initProgram, init28_eq_frames, commitsWhole_frames28_append]
    rfl
  · rw [initProgram_setReady_of_ne_v28 rom hv]
    exact commitsWhole_fromStartPulse hv

theorem commitsWhole_setfProgram (rom : Rom28) (w : Word) (clkmul wave : Bool) (v : Variant) :
    commitsWhole v 0 (setfProgram rom w clkmul wave v) = true := by
  cases v with
  | v28 =>
    rw [setfProgram, setf28_eq_frames, ← List.append_nil (List.flatMap ..), commitsWhole_frames28_append]
    rfl
  | v32 =>
    rw [setfProgram, setf32, List.append_assoc, commitsWhole_sendFrame, commitsWhole_sendFrame]
    rfl
  | v32m =>
    rw [setfProgram, setf32, List.append_assoc, commitsWhole_sendFrame, commitsWhole_sendFrame]
    rfl

/-! ### The invariant, agent by agent -/

/-- With nothing pending, the invariant has both lines LOW and no bit uncommitted. -/
theorem State.Inv.idle {s : State} (h : s.Inv) (hq : s.queue = []) :
    s.lineClk = false ∧ s.lineLoad = false ∧ openBits s.trace = 0 := by
  obtain ⟨-, hlines, -, hframes⟩ := h
  unfold State.linesOk at hlines
  unfold State.framesOk at hframes
  rw [hq] at hlines hframes
  simpa [pulsesShaped, commitsWhole, and_assoc] using And.intro hlines hframes

/-- A block with nothing pending may start any well-shaped list of whole frames, with a SetReady only if it is configured. -/
theorem State.Inv.setQueue {s : State} (h : s.Inv) (hq : s.queue = []) {q : List MicroStep}
    (hshaped : pulsesShaped false false q = true) (hwhole : commitsWhole s.cfgVariant 0 q = true)
    (hready : MicroStep.setReady ∈ q → s.cfgValid = true) : (s.setQueue q).Inv := by
  obtain ⟨hclk, hload, hopen⟩ := h.idle hq
  obtain ⟨⟨hvalid, hencReady, -⟩, -, htrace, -⟩ := h
  have hlines : (s.setQueue q).linesOk := by
    rw [State.linesOk, State.setQueue_lineClk, State.setQueue_lineLoad, hclk, hload]
    exact hshaped
  have hframes : (s.setQueue q).framesOk := by
    rw [State.framesOk, State.setQueue_trace, hopen]
    exact hwhole
  exact ⟨⟨hvalid, hencReady, hready⟩, hlines, htrace, hframes⟩

/-- A configuration taken over with nothing pending: no frame depends on the variant, and the clock was checked (R262). -/
theorem State.Inv.configured {s : State} (h : s.Inv) (hq : s.queue = []) (hr : s.refclk ≠ 0#32) (v : Variant) :
    ({ s with cfgVariant := v, cfgRefclk := s.refclk, cfgValid := true, err := .none } : State).Inv := by
  obtain ⟨-, -, hopen⟩ := h.idle hq
  obtain ⟨-, hlines, htrace, -⟩ := h
  refine ⟨⟨fun _ => hr, fun _ => rfl, fun _ => rfl⟩, hlines, htrace, ?_⟩
  simp only [State.framesOk, hq, hopen]
  rfl

theorem HostEffect.inv {s u : State} (heffect : HostEffect s u) (h : s.Inv) : u.Inv := by
  cases heffect with
  | configured hq hc hr v hv => exact h.configured hq hr v
  | initStarted hq hc =>
    exact h.setQueue hq (pulsesShaped_initProgram _ _ _) (commitsWhole_initProgram _ _) fun _ => hc
  | setfStarted hq hc he =>
    exact h.setQueue hq (pulsesShaped_setfProgram _ _ _ _ _) (commitsWhole_setfProgram _ _ _ _ _) fun _ => hc
  | quantStarted hq hr n hn => exact h.setQueue hq rfl rfl fun hm => nomatch hm
  | _ => exact h

/-- A micro-step keeps the invariant: each part of it reads the first micro-step off the queue just as performing it changes lines and trace. -/
theorem State.Inv.perform {s : State} {m : MicroStep} {q : List MicroStep} (h : s.Inv) (hq : s.queue = m :: q) :
    ((s.perform m).setQueue q).Inv := by
  obtain ⟨⟨hvalid, hencReady, hready⟩, hlines, htrace, hframes⟩ := h
  unfold State.linesOk at hlines
  unfold State.traceOk at htrace
  unfold State.framesOk at hframes
  rw [hq] at hready hlines hframes
  have hconfig' : ((s.perform m).setQueue q).configOk := by
    refine ⟨?_, ?_, ?_⟩
    · cases m <;> exact hvalid
    · cases m with
      | setReady => exact fun _ => hready (List.mem_cons_self ..)
      | _ => exact hencReady
    · cases m <;> exact fun hm => hready (List.mem_cons_of_mem _ hm)
  have hlines' : ((s.perform m).setQueue q).linesOk := by
    cases m <;> exact (Bool.and_eq_true_iff.1 hlines).2
  have htrace' : ((s.perform m).setQueue q).traceOk := by
    cases m <;> simp [State.traceOk, State.perform, traceLevels_append, htrace, Levels.after, State.levels]
  have hframes' : ((s.perform m).setQueue q).framesOk := by
    cases m with
    | load b =>
      cases b with
      | true =>
        rw [commitsWhole_loadHigh, Bool.and_eq_true] at hframes
        simpa [State.framesOk, State.perform, openBits_append, openBitsAfter] using hframes.2
      | false => simpa [State.framesOk, State.perform, openBits_append, openBitsAfter, commitsWhole] using hframes
    | _ => simpa [State.framesOk, State.perform, openBits_append, openBitsAfter, commitsWhole] using hframes
  exact ⟨hconfig', hlines', htrace', hframes'⟩

theorem State.Inv.sequencerStep {s : State} (h : s.Inv) : s.sequencerStep.Inv := by
  rcases sequencerStep_cases s with ⟨_, hs⟩ | ⟨m, q, hq, hs⟩
  · rw [hs]
    exact h
  · rw [hs]
    exact h.perform hq

/-- After the reset input nothing is pending, the lines are LOW as the trace says, and the count of bits starts again (R290, log 17). -/
theorem resetInput_inv (s : State) : s.resetInput.Inv := by
  have htrace : s.resetInput.traceOk := by
    rw [State.traceOk, State.resetInput_trace, traceLevels_append]
    rfl
  have hframes : s.resetInput.framesOk := by
    rw [State.framesOk, State.resetInput_trace, openBits_append]
    rfl
  exact ⟨⟨nofun, nofun, nofun⟩, rfl, htrace, hframes⟩

/-- Settles O50: by the agent that moves, a micro-step, a reset, or one of the effects of a host access. -/
theorem everyStepKeepsTheInvariant : Obligations.EveryStepKeepsTheInvariant := by
  unfold Obligations.EveryStepKeepsTheInvariant
  intro s t hinv hstep
  have hturn : (s.setTurns s.turns.tail).Inv := hinv
  rcases step_cases hstep with ⟨_, rfl⟩ | ⟨_, rfl⟩ | ⟨_, p, heffect⟩
  · exact hturn.sequencerStep
  · exact resetInput_inv _
  · exact heffect.inv hturn

/-! ### What the invariant says of the lines (R202, R207 to R209) -/

/-- A well-shaped list is never pending while both lines are HIGH. -/
theorem not_both_high_of_pulsesShaped {c l : Bool} {q : List MicroStep} (h : pulsesShaped c l q = true) : ¬(c = true ∧ l = true) := by
  rintro ⟨rfl, rfl⟩
  cases q with
  | nil => exact nomatch h
  | cons m q => cases m <;> simp [pulsesShaped] at h

/-- A well-shaped list that begins with a clock event changes the clock line. -/
theorem eq_not_of_pulsesShaped_clk {c l b : Bool} {q : List MicroStep} (h : pulsesShaped c l (.clk b :: q) = true) : c = !b := by
  simp only [pulsesShaped, Bool.and_eq_true, bne_iff_ne] at h
  obtain ⟨⟨hchange, -⟩, -⟩ := h
  exact Bool.eq_not.2 hchange.symm

theorem eq_not_of_pulsesShaped_load {c l b : Bool} {q : List MicroStep} (h : pulsesShaped c l (.load b :: q) = true) : l = !b := by
  simp only [pulsesShaped, Bool.and_eq_true, bne_iff_ne] at h
  obtain ⟨⟨hchange, -⟩, -⟩ := h
  exact Bool.eq_not.2 hchange.symm

/-- Settles O51: each clause reads the first micro-step off the well-shaped queue. -/
theorem clockAndLoadLinesPulseApart : Obligations.ClockAndLoadLinesPulseApart := by
  unfold Obligations.ClockAndLoadLinesPulseApart
  intro s hinv
  have ⟨_, hlines, _, _⟩ := hinv
  unfold State.linesOk at hlines
  refine ⟨not_both_high_of_pulsesShaped hlines, fun hq => ?_, fun b q hq => ?_, fun b q hq => ?_⟩
  · obtain ⟨hclk, hload, -⟩ := hinv.idle hq
    exact ⟨hclk, hload⟩
  · rw [hq] at hlines
    exact eq_not_of_pulsesShaped_clk hlines
  · rw [hq] at hlines
    exact eq_not_of_pulsesShaped_load hlines

theorem perform_lineData {s : State} {m : MicroStep} (h : (s.perform m).lineData ≠ s.lineData) : ∃ b, m = .data b := by
  cases m with
  | data b => exact ⟨b, rfl⟩
  | _ => exact absurd rfl h

theorem sequencerStep_lineData {s : State} (h : s.sequencerStep.lineData ≠ s.lineData) : ∃ b q, s.queue = .data b :: q := by
  rcases sequencerStep_cases s with ⟨_, hs⟩ | ⟨m, q, hq, hs⟩
  · exact absurd (congrArg State.lineData hs) h
  · rw [hs] at h
    obtain ⟨b, rfl⟩ := perform_lineData h
    exact ⟨b, q, hq⟩

/-- Settles O52: a pending Data in a well-shaped queue has both lines LOW, no other micro-step writes the data line, and the host never does. -/
theorem dataLineOnlyChangesWithClockAndLoadLow : Obligations.DataLineOnlyChangesWithClockAndLoadLow := by
  unfold Obligations.DataLineOnlyChangesWithClockAndLoadLow
  intro s t ⟨_, hlines, _, _⟩ hstep
  refine ⟨fun b q hturn hq => ?_, fun hrst hdata => ?_⟩
  · cases (step_performs hturn hq).symm.trans hstep
    unfold State.linesOk at hlines
    rw [hq] at hlines
    simp only [pulsesShaped, Bool.and_eq_true, Bool.not_eq_true'] at hlines
    obtain ⟨⟨hclk, hload⟩, -⟩ := hlines
    exact ⟨rfl, hclk, hload, hclk, hload⟩
  · rcases step_cases hstep with ⟨hturn, rfl⟩ | ⟨hturn, _⟩ | ⟨_, p, heffect⟩
    · exact ⟨hturn, sequencerStep_lineData (s := s.setTurns s.turns.tail) hdata⟩
    · exact absurd hturn hrst
    · obtain ⟨hkept, -⟩ := heffect.frame
      exact absurd hkept hdata

/-! ### What a receiver reads (R64, R65, R200, R208) -/

/-- Bits sent are sampled in order, and the data line stays at the last one. -/
theorem sampleBits_sendBits (v : Variant) (rising d : Bool) (bits : List Bool) (es : List BusEvent) :
    sampleBits rising d (busEvents (bits.flatMap (sendBit v)) ++ es) = bits ++ sampleBits rising (bits.getLastD d) es := by
  induction bits generalizing d with
  | nil => rfl
  | cons b bits ih =>
    rw [List.flatMap_cons, busEvents_append, List.append_assoc, sampleBits_sendBit, ih, List.getLastD_cons]
    rfl

theorem sampleBits_commitPulse (rising d : Bool) : sampleBits rising d (busEvents commitPulse) = [] := rfl

/-- Settles O25: the samples of the bits, with no event after them. -/
theorem receiverReadsTheBitsSentAtEitherEdge : Obligations.ReceiverReadsTheBitsSentAtEitherEdge := by
  unfold Obligations.ReceiverReadsTheBitsSentAtEitherEdge
  intro v rising d bits
  simpa [sampleBits] using sampleBits_sendBits v rising d bits []

theorem shiftIn40_getLsbD (r : BitVec 40) (b : Bool) {k : Nat} (hk : k < 40) :
    (shiftIn40 r b).getLsbD k = if k = 39 then b else r.getLsbD (k + 1) := by
  have happend : (shiftIn40 r b).getLsbD k = (BitVec.ofBool b ++ r.extractLsb' 1 39).getLsbD k := rfl
  rw [happend, BitVec.getLsbD_append, BitVec.getLsbD_extractLsb']
  by_cases h39 : k = 39
  · simp [h39]
  · simp [h39, show k < 39 by omega, Nat.add_comm 1]

/-- The receiver holds the last 40 bits it took, the last one highest. -/
theorem receive40_getLsbD (bits : List Bool) {k : Nat} (hk : k < 40) :
    (receive40 bits).getLsbD k = bits.reverse.getD (39 - k) false := by
  induction bits using List.reverseRecOn generalizing k with
  | nil => simp [receive40]
  | append_singleton bits b ih =>
    have hlast : receive40 (bits ++ [b]) = shiftIn40 (receive40 bits) b := by simp [receive40]
    rw [hlast, shiftIn40_getLsbD _ _ hk, List.reverse_append]
    by_cases h39 : k = 39
    · simp [h39]
    · rw [if_neg h39, ih (by omega), show 39 - k = 39 - (k + 1) + 1 by omega]
      rfl

/-- A 40-bit receiver gets back the value that was sent LSB first (R65). -/
theorem receive40_frameBits (val : BitVec 40) : receive40 (frameBits val 40 .lsb) = val := by
  apply BitVec.eq_of_getLsbD_eq
  intro k hk
  rw [receive40_getLsbD _ hk]
  simp [frameBits, bitPositions, show 39 - k < 40 by omega, show 39 - (39 - k) = k by omega]

/-- A value sent LSB first and then another are the bits of the two put together, the second one on top. -/
theorem frameBits_lsb_append {m n : Nat} (hi : BitVec m) (lo : BitVec n) :
    frameBits lo n .lsb ++ frameBits hi m .lsb = frameBits (hi ++ lo) (n + m) .lsb := by
  simp only [frameBits, bitPositions, List.range_add, List.map_append, List.map_map, BitVec.getLsbD_append]
  congr 1
  · exact List.map_congr_left fun i hi => by simp [List.mem_range.1 hi]
  · exact List.map_congr_left fun i _ => by simp

/-! ### The setFrequency stream of the 32-bit family (R171, R175) -/

theorem controlByte_eq (clkmul : Bool) : controlByte clkmul = if clkmul then 0x01#8 else 0x00#8 := by
  cases clkmul <;> rfl

/-- The 40 bits of SETF32, in sending order: the control byte stands above the word. -/
def setf32Bits (w : Word) (clkmul : Bool) : List Bool := frameBits (controlByte clkmul ++ w) 40 .lsb

theorem setf32_eq_bits (v : Variant) (w : Word) (clkmul : Bool) :
    setf32 v w clkmul = (setf32Bits w clkmul).flatMap (sendBit v) ++ commitPulse := by
  have hbits : setf32Bits w clkmul = frameBits w 32 .lsb ++ frameBits (controlByte clkmul) 8 .lsb := (frameBits_lsb_append _ w).symm
  rw [setf32, sendFrame, sendFrame, hbits, List.flatMap_append]

theorem sampleBits_setf32 (v : Variant) (w : Word) (clkmul rising d : Bool) :
    sampleBits rising d (busEvents (setf32 v w clkmul)) = setf32Bits w clkmul := by
  rw [setf32_eq_bits, busEvents_append, sampleBits_sendBits, sampleBits_commitPulse, List.append_nil]

/-- Settles O26: the stream is the 40 bits of the control byte above the word and a commit, and both variants settle after each bit. -/
theorem setFrequency32StreamCarriesWordAndControlByte : Obligations.SetFrequency32StreamCarriesWordAndControlByte := by
  unfold Obligations.SetFrequency32StreamCarriesWordAndControlByte
  intro v w clkmul rising d hv
  have hsettles : settles v = true := by rcases hv with rfl | rfl <;> rfl
  have hlength : (setf32Bits w clkmul).length = 40 := frameBits_length _ _ _
  rw [sampleBits_setf32]
  refine ⟨?_, ?_, hlength, ?_⟩
  · rw [setf32, sendFrame_lsb_of_settles hsettles, sendFrame_lsb_of_settles hsettles]
    cases clkmul <;> rfl
  · rw [setf32Bits, receive40_frameBits, controlByte_eq]
  · have hframes : committedFrames d [] (busEvents (setf32 v w clkmul)) = [setf32Bits w clkmul] := by
      rw [setf32_eq_bits, busEvents_append, committedFrames_sendBits, ← List.append_nil (busEvents commitPulse),
        committedFrames_commitPulse]
      rfl
    rw [hframes, List.map_singleton, hlength]

/-! ### The sizes of the programs (R211) -/

/-- How many micro-steps, bus events and Data micro-steps a list holds: the three columns of the table of R211. -/
def programSizes (q : List MicroStep) : Nat × Nat × Nat :=
  (q.length, (busEvents q).length, (q.filter fun m => m == .data true || m == .data false).length)

theorem programSizes_append (p q : List MicroStep) : programSizes (p ++ q) = programSizes p + programSizes q := by
  simp [programSizes]

theorem programSizes_cons (m : MicroStep) (q : List MicroStep) : programSizes (m :: q) = programSizes [m] + programSizes q :=
  programSizes_append [m] q

theorem programSizes_sendBit (v : Variant) (b : Bool) :
    programSizes (sendBit v b) = (if settles v then 4 else 3, if settles v then 4 else 3, 1) := by
  cases v <;> cases b <;> rfl

theorem programSizes_sendFrame {k : Nat} (v : Variant) (val : BitVec k) (n : Nat) (o : BitOrder) :
    programSizes (sendFrame v val n o) = (n * (if settles v then 4 else 3), n * (if settles v then 4 else 3), n) := by
  have bits : ∀ l : List Bool, programSizes (l.flatMap (sendBit v)) =
      l.length • (if settles v then 4 else 3, if settles v then 4 else 3, 1) := by
    intro l
    induction l with
    | nil => simp [programSizes]
    | cons b l ih => rw [List.flatMap_cons, programSizes_append, programSizes_sendBit, ih, List.length_cons, succ_nsmul']
  rw [sendFrame, bits, frameBits_length]
  simp

theorem programSizes_frames28 (vals : List (BitVec 16)) :
    programSizes (vals.flatMap frame28) = (50 * vals.length, 50 * vals.length, 16 * vals.length) := by
  induction vals with
  | nil => rfl
  | cons val vals ih =>
    rw [List.flatMap_cons, programSizes_append, ih, frame28, programSizes_append, programSizes_sendFrame]
    simp [settles, programSizes, commitPulse, busEvents, microStepEvent]
    omega

theorem programSizes_setfProgram (rom : Rom28) (w : Word) (clkmul wave : Bool) (v : Variant) :
    programSizes (setfProgram rom w clkmul wave v) = if v = .v28 then (250, 250, 80) else (162, 162, 40) := by
  have setf32_sizes : ∀ u, settles u = true → programSizes (setf32 u w clkmul) = (162, 162, 40) := fun u hu => by
    simp only [setf32, programSizes_append, programSizes_sendFrame, hu]
    rfl
  cases v with
  | v28 =>
    rw [setfProgram, setf28_eq_frames, programSizes_frames28]
    rfl
  | v32 => exact setf32_sizes .v32 rfl
  | v32m => exact setf32_sizes .v32m rfl

theorem programSizes_initProgram (rom : Rom28) (mode : BitVec 8) (v : Variant) :
    programSizes (initProgram rom mode v) = if v = .v28 then (300, 300, 96) else (166, 166, 40) := by
  have init32_sizes : ∀ u, settles u = true → programSizes (init32 u mode) = (166, 166, 40) := fun u hu => by
    simp only [init32, programSizes_append, programSizes_sendFrame, hu]
    rfl
  cases v with
  | v28 =>
    rw [initProgram, init28_eq_frames, programSizes_frames28]
    rfl
  | v32 => exact init32_sizes .v32 rfl
  | v32m => exact init32_sizes .v32m rfl

/-- Settles O31: Quant and SetReady are one micro-step each, with no event. -/
theorem programLengthsAreThoseOfTheTable : Obligations.ProgramLengthsAreThoseOfTheTable := by
  unfold Obligations.ProgramLengthsAreThoseOfTheTable
  intro rom mode w clkmul wave bits sizes
  have hsetf : ∀ v, sizes (.quant w :: setfProgram rom w clkmul wave v) =
      if v = .v28 then (251, 250, 80) else (163, 162, 40) := fun v => by
    show programSizes _ = _
    rw [programSizes_cons, programSizes_setfProgram]
    cases v <;> rfl
  have hinit : ∀ v, sizes (initProgram rom mode v ++ [.setReady]) =
      if v = .v28 then (301, 300, 96) else (167, 166, 40) := fun v => by
    show programSizes _ = _
    rw [programSizes_append, programSizes_initProgram]
    cases v <;> rfl
  exact ⟨hsetf .v28, hsetf .v32, hsetf .v32m, hinit .v28, hinit .v32, hinit .v32m, rfl⟩

/-! ### The shift-register sequencer (R37, R212) -/

/-- From registers `r` the datapath performs the micro-steps `q`, in order, and then holds `r'`. -/
inductive SeqRegs.Performs (j : SeqJob) : SeqRegs → List MicroStep → SeqRegs → Prop
  | nil (r : SeqRegs) : Performs j r [] r
  | cons {r r₁ r' : SeqRegs} {m : MicroStep} {q : List MicroStep} (hnext : r.next j = some (m, r₁)) (hrest : Performs j r₁ q r') :
      Performs j r (m :: q) r'

namespace SeqRegs

variable {j : SeqJob} {r r' r'' : SeqRegs}

theorem Performs.append {p q : List MicroStep} (h : r.Performs j p r') (h' : r'.Performs j q r'') : r.Performs j (p ++ q) r'' := by
  induction h with
  | nil r => exact h'
  | cons hnext _ ih => exact .cons hnext (ih h')

/-- What is performed up to phase IDLE is all that the datapath performs, with any fuel that reaches so far. -/
theorem Performs.unroll_eq {q : List MicroStep} (h : r.Performs j q r') (hidle : r'.phase = .idle) {fuel : Nat} (hfuel : q.length ≤ fuel) :
    SeqRegs.unroll j fuel r = q := by
  induction h generalizing fuel with
  | nil r =>
    cases fuel with
    | zero => rfl
    | succ fuel => simp [SeqRegs.unroll, SeqRegs.next, hidle]
  | cons hnext _ ih =>
    cases fuel with
    | zero => simp at hfuel
    | succ fuel =>
      rw [SeqRegs.unroll, hnext]
      exact congrArg _ (ih hidle (Nat.le_of_succ_le_succ hfuel))

/-! #### Entering an entry -/

/-- Entering sets the phase, whatever it was. -/
theorem enter_phase (p : Phase) (k : BitVec 4) : enter j { r with phase := p } k = enter j r k := by
  unfold enter
  split <;> rfl

theorem shift_phase (p : Phase) (o : BitOrder) : shift j { r with phase := p } o = shift j r o := by
  by_cases hlast : r.bitcnt - 1#6 = 0#6
  · simp only [shift, hlast, if_true]
    exact enter_phase (r := { r with sr := shiftOnce r.sr o, bitcnt := 0#6 }) p _
  · simp only [shift, hlast, if_false]

theorem enter_frame {val : Word} {n : Nat} {o : BitOrder} {k : BitVec 4} (h : j.entries[k.toNat]? = some (.frame val n o)) (r : SeqRegs) :
    enter j r k = { sr := val, bitcnt := BitVec.ofNat 6 n, frame := k, phase := .data } := by
  simp [enter, h]

/-! #### One bit of a frame -/

/-- `SR` after `i` bits of a frame of value `val` (R212 step 5). -/
def shiftedBy (val : Word) (i : Nat) : BitOrder → Word
  | .msb => val <<< i
  | .lsb => val >>> i

theorem shiftedBy_zero (val : Word) (o : BitOrder) : shiftedBy val 0 o = val := by
  cases o <;> simp [shiftedBy]

theorem shiftOnce_shiftedBy (val : Word) (i : Nat) (o : BitOrder) : shiftOnce (shiftedBy val i o) o = shiftedBy val (i + 1) o := by
  cases o with
  | msb => exact (BitVec.shiftLeft_add val i 1).symm
  | lsb => exact (BitVec.shiftRight_add val i 1).symm

/-- The bit at the end of the shifted `SR` is the frame's next bit (R201, R212 step 1). -/
theorem outBit_eq_frameBits {val : Word} {n i : Nat} {o : BitOrder} (hsr : r.sr = shiftedBy val i o) (hi : i < n) (hn : n ≤ 32) :
    r.outBit n o = (frameBits val n o)[i]'(by simpa using hi) := by
  cases o with
  | msb =>
    have hpos : n - 1 - i < 32 ∧ i ≤ n - 1 ∧ n - 1 < 32 := by omega
    simp [SeqRegs.outBit, hsr, shiftedBy, frameBits, bitPositions, hpos]
  | lsb => simp [SeqRegs.outBit, hsr, shiftedBy, frameBits, bitPositions]

/-- What is left to send of a frame is the bit at the end of `SR` and then the rest. -/
theorem flatMap_drop_frameBits {val : Word} {n i : Nat} {o : BitOrder} (send : Bool → List MicroStep) (hsr : r.sr = shiftedBy val i o)
    (hi : i < n) (hn : n ≤ 32) : ((frameBits val n o).drop i).flatMap send =
      send (r.outBit n o) ++ ((frameBits val n o).drop (i + 1)).flatMap send := by
  have hlt : i < (frameBits val n o).length := by rwa [frameBits_length]
  rw [List.drop_eq_getElem_cons hlt, List.flatMap_cons, outBit_eq_frameBits hsr hi hn]

/-- In phase DATA of a frame the datapath sends the bit at the end of `SR`, with its clock pulse and settle delay, and shifts. -/
theorem performs_bit {val : Word} {n : Nat} {o : BitOrder} (hentry : j.entries[r.frame.toNat]? = some (.frame val n o))
    (hphase : r.phase = .data) : r.Performs j (sendBit j.variant (r.outBit n o)) (shift j r o) := by
  have hdata : r.next j = some (.data (r.outBit n o), { r with phase := .clkh }) := by
    simp [SeqRegs.next, hphase, hentry, FrameEntry.shape]
  have hclkh : ({ r with phase := .clkh } : SeqRegs).next j = some (.clk true, { r with phase := .clkl }) := rfl
  by_cases hsettles : settles j.variant = true
  · have hclkl : ({ r with phase := .clkl } : SeqRegs).next j = some (.clk false, { r with phase := .settle }) := by
      simp [SeqRegs.next, hentry, SeqRegs.afterClock, hsettles]
    have hsettle : ({ r with phase := .settle } : SeqRegs).next j = some (.settle, shift j r o) := by
      simp [SeqRegs.next, hentry, FrameEntry.shape, shift_phase]
    rw [sendBit_of_settles hsettles]
    exact .cons hdata (.cons hclkh (.cons hclkl (.cons hsettle (.nil _))))
  · have hclkl : ({ r with phase := .clkl } : SeqRegs).next j = some (.clk false, shift j r o) := by
      simp [SeqRegs.next, hentry, SeqRegs.afterClock, hsettles, shift_phase]
    simp only [sendBit, hsettles]
    exact .cons hdata (.cons hclkh (.cons hclkl (.nil _)))

/-! #### A frame, an entry, a program -/

/-- The last shift of a frame goes on to the next entry. -/
theorem shift_last {o : BitOrder} (hcnt : r.bitcnt = 1#6) : ∃ held, shift j r o = enter j held (r.frame + 1#4) := by
  refine ⟨{ r with sr := shiftOnce r.sr o, bitcnt := r.bitcnt - 1#6 }, ?_⟩
  simp [shift, hcnt]

/-- Any other shift goes on to the next bit. -/
theorem shift_more {o : BitOrder} {m : Nat} (hcnt : r.bitcnt = BitVec.ofNat 6 (m + 2)) (hm : m + 2 ≤ 32) :
    shift j r o = { r with sr := shiftOnce r.sr o, bitcnt := BitVec.ofNat 6 (m + 1), phase := .data } := by
  have hminus : r.bitcnt - 1#6 = BitVec.ofNat 6 (m + 1) := by
    rw [hcnt]
    apply BitVec.eq_of_toNat_eq
    simp
    omega
  have hpos : BitVec.ofNat 6 (m + 1) ≠ 0#6 := fun h => by
    have := congrArg BitVec.toNat h
    simp at this
    omega
  simp only [shift, hminus, if_neg hpos]

/-- With `m + 1` bits of a frame left, the datapath sends those and goes on to the next entry. -/
theorem performs_remainingBits {val : Word} {n : Nat} {o : BitOrder} (hn : n ≤ 32) (m : Nat) {i : Nat} (r : SeqRegs)
    (hleft : i + m + 1 = n) (hentry : j.entries[r.frame.toNat]? = some (.frame val n o)) (hphase : r.phase = .data)
    (hsr : r.sr = shiftedBy val i o) (hcnt : r.bitcnt = BitVec.ofNat 6 (m + 1)) :
    ∃ held, r.Performs j (((frameBits val n o).drop i).flatMap (sendBit j.variant)) (enter j held (r.frame + 1#4)) := by
  induction m generalizing i r with
  | zero =>
    have hbit := performs_bit hentry hphase
    have hnone : (frameBits val n o).drop (i + 1) = [] := List.drop_eq_nil_of_le (by rw [frameBits_length]; omega)
    obtain ⟨held, hshift⟩ := shift_last (j := j) (o := o) hcnt
    rw [hshift] at hbit
    rw [flatMap_drop_frameBits _ hsr (by omega) hn, hnone, List.flatMap_nil, List.append_nil]
    exact ⟨held, hbit⟩
  | succ m ih =>
    have hbit := performs_bit hentry hphase
    rw [shift_more hcnt (by omega)] at hbit
    obtain ⟨held, hrest⟩ := ih { r with sr := shiftOnce r.sr o, bitcnt := BitVec.ofNat 6 (m + 1), phase := .data } (i := i + 1) (by omega)
      hentry rfl (by rw [hsr, shiftOnce_shiftedBy]) rfl
    rw [flatMap_drop_frameBits _ hsr (by omega) hn]
    exact ⟨held, hbit.append hrest⟩

/-- From the entering of an entry the datapath performs the entry's micro-steps and enters the next one. -/
theorem performs_entry {e : FrameEntry} {k : BitVec 4} (hentry : j.entries[k.toNat]? = some e)
    (hwidth : ∀ val n o, e = .frame val n o → 1 ≤ n ∧ n ≤ 32) (held : SeqRegs) :
    ∃ held', (enter j held k).Performs j (expandEntry j.variant e) (enter j held' (k + 1#4)) := by
  cases e with
  | frame val n o =>
    obtain ⟨hpos, hn⟩ := hwidth val n o rfl
    rw [enter_frame hentry]
    exact performs_remainingBits hn (n - 1) (i := 0) _ (by omega) hentry rfl (shiftedBy_zero val o).symm
      (by rw [Nat.sub_add_cancel hpos])
  | commit =>
    have hstart : enter j held k = { held with frame := k, phase := .loadh } := by simp [enter, hentry]
    rw [hstart]
    exact ⟨_, .cons rfl (.cons rfl (.nil _))⟩
  | pulse =>
    have hstart : enter j held k = { held with frame := k, phase := .loadh } := by simp [enter, hentry]
    rw [hstart]
    exact ⟨_, .cons rfl (.cons rfl (.nil _))⟩
  | strobe =>
    have hstart : enter j held k = { held with frame := k, phase := .clkh } := by simp [enter, hentry]
    have hclkl : ({ held with frame := k, phase := .clkl } : SeqRegs).next j =
        some (.clk false, enter j { held with frame := k, phase := .clkl } (k + 1#4)) := by
      simp [SeqRegs.next, hentry, SeqRegs.afterClock]
    rw [hstart]
    exact ⟨_, .cons rfl (.cons hclkl (.nil _))⟩

/-- The phase after the last entry. -/
def lastPhase (j : SeqJob) : Phase := if j.endsReady then .ready else .idle

/-- The frame index reaches every entry of a program of fewer than 16, and the end of it. -/
theorem entry_at_frameIndex (hlen : j.entries.length < 16) {sent rest : List FrameEntry} (hsplit : j.entries = sent ++ rest) :
    j.entries[(BitVec.ofNat 4 sent.length).toNat]? = rest.head? := by
  have hindex : (BitVec.ofNat 4 sent.length).toNat = sent.length := by
    have hle : sent.length ≤ j.entries.length := by simp [hsplit]
    rw [BitVec.toNat_ofNat]
    omega
  rw [hindex, hsplit, List.getElem?_append_right (Nat.le_refl _), Nat.sub_self, List.head?_eq_getElem?]

/-- From the entering of any entry on, the datapath performs the rest of the program. -/
theorem performs_entries (hlen : j.entries.length < 16)
    (hwidth : ∀ val n o, FrameEntry.frame val n o ∈ j.entries → 1 ≤ n ∧ n ≤ 32) {sent rest : List FrameEntry}
    (hsplit : j.entries = sent ++ rest) (held : SeqRegs) :
    ∃ r', (enter j held (BitVec.ofNat 4 sent.length)).Performs j (expand j.variant rest) r' ∧ r'.phase = lastPhase j := by
  have hentry := entry_at_frameIndex hlen hsplit
  induction rest generalizing sent held with
  | nil =>
    refine ⟨_, .nil _, ?_⟩
    simp only [enter, hentry, List.head?_nil]
    rfl
  | cons e rest ih =>
    have hsplit' : j.entries = (sent ++ [e]) ++ rest := by simp [hsplit]
    have hnext : BitVec.ofNat 4 sent.length + 1#4 = BitVec.ofNat 4 (sent ++ [e]).length := by
      rw [List.length_append]
      exact (BitVec.ofNat_add ..).symm
    have hwidthEntry : ∀ val n o, e = .frame val n o → 1 ≤ n ∧ n ≤ 32 := fun val n o he =>
      hwidth val n o (by simp [hsplit, he])
    obtain ⟨held', hfirst⟩ := performs_entry hentry hwidthEntry held
    rw [hnext] at hfirst
    obtain ⟨r', hrest, hlast⟩ := ih hsplit' held' (entry_at_frameIndex hlen hsplit')
    exact ⟨r', hfirst.append hrest, hlast⟩

/-- After the last entry the datapath performs SetReady if its job ends with it, and is IDLE. -/
theorem performs_ending (hlast : r.phase = lastPhase j) :
    ∃ r', r.Performs j (if j.endsReady then [.setReady] else []) r' ∧ r'.phase = .idle := by
  unfold lastPhase at hlast
  by_cases hends : j.endsReady = true
  · rw [if_pos hends] at hlast ⊢
    exact ⟨{ r with phase := .idle }, .cons (by simp [SeqRegs.next, hlast]) (.nil _), rfl⟩
  · rw [if_neg hends] at hlast ⊢
    exact ⟨r, .nil r, hlast⟩

/-- From its start the datapath performs the whole job and is IDLE. -/
theorem performs_microSteps (hlen : j.entries.length < 16)
    (hwidth : ∀ val n o, FrameEntry.frame val n o ∈ j.entries → 1 ≤ n ∧ n ≤ 32) (held : SeqRegs) :
    ∃ r', (j.start held).Performs j j.microSteps r' ∧ r'.phase = .idle := by
  have hprogram := performs_entries hlen hwidth (sent := []) rfl
  cases hquant : j.quantWord with
  | none =>
    obtain ⟨r, hentries, hlast⟩ := hprogram held
    obtain ⟨r', hending, hidle⟩ := performs_ending hlast
    rw [SeqJob.start, SeqJob.microSteps, hquant]
    exact ⟨r', hentries.append hending, hidle⟩
  | some w =>
    obtain ⟨r, hentries, hlast⟩ := hprogram { held with phase := .quant }
    obtain ⟨r', hending, hidle⟩ := performs_ending hlast
    have hfirst : ({ held with phase := .quant } : SeqRegs).next j =
        some (.quant w, enter j { held with phase := .quant } 0#4) := by
      simp [SeqRegs.next, hquant]
    rw [SeqJob.start, SeqJob.microSteps, hquant]
    exact ⟨r', .cons hfirst (hentries.append hending), hidle⟩

end SeqRegs

/-- Settles O33: the datapath performs the job's micro-steps and is then IDLE, where it performs nothing more. -/
theorem shiftRegisterPerformsTheMicroStepList : Obligations.ShiftRegisterPerformsTheMicroStepList := by
  unfold Obligations.ShiftRegisterPerformsTheMicroStepList
  intro j held fuel hlen hwidth hfuel
  obtain ⟨r', hperforms, hidle⟩ := SeqRegs.performs_microSteps hlen hwidth held
  exact hperforms.unroll_eq hidle hfuel

end Sys2Proof.Machine
end

section
/-! PROOFS. Family 43_host_access.md: register reads (O6, O8) and register writes (O9, O10). -/

namespace Sys2Proof.Machine

/-! ### Register reads (R230) -/

/-- A read answers the register it names, whichever that is. -/
theorem exec_decodeRead (r : Reg) (s : State) : exec (decodeRead r) s = .next (s.hostRead r) := by
  cases r <;> rfl

/-- Settles O6: each of the eight reads answers its own register. -/
theorem readsAnswerTheRegisterAndChangeNothing : Obligations.ReadsAnswerTheRegisterAndChangeNothing := by
  unfold Obligations.ReadsAnswerTheRegisterAndChangeNothing
  exact fun s => ⟨exec_decodeRead .cmd s, exec_decodeRead .status s, exec_decodeRead .freq s, exec_decodeRead .refclk s,
    exec_decodeRead .cal s, exec_decodeRead .options s, exec_decodeRead .variant s, exec_decodeRead .word s⟩

/-! ### The fields of OPTIONS and VARIANT (R237, R238) -/

theorem optionsWord_getLsbD (clkmul wave : Bool) (k : Nat) :
    (optionsWord clkmul wave).getLsbD k = if k = 0 then clkmul else if k = 1 then wave else false := by
  rw [optionsWord, BitVec.getLsbD_setWidth, BitVec.getLsbD_append]
  match k with
  | 0 => simp
  | 1 => simp
  | k + 2 => simp

theorem variantWord_getLsbD (sel : BitVec 2) (k : Nat) : (variantWord sel).getLsbD k = sel.getLsbD k := by
  rw [variantWord, BitVec.getLsbD_setWidth]
  by_cases hk : k < 32
  · simp [hk]
  · simp [hk, BitVec.getLsbD_of_ge sel k (by omega)]

/-- A word whose bits from bit 2 on are all 0 has the field 31:2 zero. -/
theorem topBits_eq_zero {w : Word} (h : ∀ k, w.getLsbD (2 + k) = false) : w.extractLsb' 2 30 = 0#30 := by
  apply BitVec.eq_of_getLsbD_eq
  intro k hk
  simp [BitVec.getLsbD_extractLsb', h k]

theorem optionsWord_topBits (clkmul wave : Bool) : (optionsWord clkmul wave).extractLsb' 2 30 = 0#30 :=
  topBits_eq_zero fun k => by simp [optionsWord_getLsbD, show 2 + k ≠ 1 by omega]

theorem variantWord_topBits (sel : BitVec 2) : (variantWord sel).extractLsb' 2 30 = 0#30 :=
  topBits_eq_zero fun k => by rw [variantWord_getLsbD, BitVec.getLsbD_of_ge sel _ (by omega)]

theorem variantWord_selField (sel : BitVec 2) : (variantWord sel).extractLsb' 0 2 = sel := by
  apply BitVec.eq_of_getLsbD_eq
  intro k hk
  simp [variantWord_getLsbD, hk]

/-- Settles O8: the words answered are those of `readReg`, and their bits are read off one by one. -/
theorem optionsAndVariantReadTheirFieldsAndZeros : Obligations.OptionsAndVariantReadTheirFieldsAndZeros := by
  unfold Obligations.OptionsAndVariantReadTheirFieldsAndZeros
  refine ⟨by decide, fun s => ⟨s.readReg .options, s.readReg .variant, exec_decodeRead .options s, ?_, ?_, ?_,
    exec_decodeRead .variant s, ?_, ?_⟩⟩
  · exact optionsWord_getLsbD s.clkmul s.wave 0
  · exact optionsWord_getLsbD s.clkmul s.wave 1
  · exact optionsWord_topBits s.clkmul s.wave
  · exact variantWord_selField s.sel
  · exact variantWord_topBits s.sel

/-! ### Register writes (R231, R241 to R247) -/

/-- The state after a write of `v` to a register: STATUS and WORD ignore it. A write to CMD is no register write (R240); it stores nothing. -/
def State.writeReg (s : State) (v : Word) : Reg → State
  | .cmd | .status | .word => s
  | .freq => s.setFreq v
  | .refclk => s.setRefclk v
  | .cal => s.setCal v
  | .options => s.setOptions v
  | .variant => s.setVariant v

/-- Every write to a register but CMD completes and stores by `writeReg`. -/
theorem exec_of_decodeWrite {r : Reg} {v : Word} {i : Instr} (hcmd : r ≠ .cmd) (h : decodeWrite r v = .ok i) (s : State) :
    exec i s = .next (s.writeReg v r) := by
  cases r with
  | cmd => exact absurd rfl hcmd
  | _ => cases h; rfl

theorem decodeWrite_isOk {r : Reg} (hcmd : r ≠ .cmd) (v : Word) : ∃ i, decodeWrite r v = .ok i := by
  cases r with
  | cmd => exact absurd rfl hcmd
  | _ => exact ⟨_, rfl⟩

theorem runTransaction_write {r : Reg} (hcmd : r ≠ .cmd) (v : Word) (s : State) :
    runTransaction (writeTransaction r v) s = .next (s.writeReg v r) := by
  obtain ⟨i, hi⟩ := decodeWrite_isOk hcmd v
  rw [runTransaction_of_decode ((decode_writeTransaction r v).trans hi), exec_of_decodeWrite hcmd hi]

/-- Settles O9: each of the seven writes stores by its register's rule. -/
theorem writesStoreTheirRegisterAndNothingElse : Obligations.WritesStoreTheirRegisterAndNothingElse := by
  unfold Obligations.WritesStoreTheirRegisterAndNothingElse
  intro s v
  exact ⟨exec_of_decodeWrite (r := .status) (by decide) rfl s,
    exec_of_decodeWrite (r := .freq) (by decide) rfl s,
    exec_of_decodeWrite (r := .refclk) (by decide) rfl s,
    exec_of_decodeWrite (r := .cal) (by decide) rfl s,
    exec_of_decodeWrite (r := .options) (by decide) rfl s,
    exec_of_decodeWrite (r := .variant) (by decide) rfl s,
    exec_of_decodeWrite (r := .word) (by decide) rfl s⟩

/-! ### Reading after a write -/

theorem getLsbD_and_three (v : Word) (k : Nat) : (v &&& 3#32).getLsbD k = (decide (k < 2) && v.getLsbD k) := by
  rw [BitVec.getLsbD_and, BitVec.getLsbD_ofNat, show 3 = 2 ^ 2 - 1 from rfl, Nat.testBit_two_pow_sub_one]
  by_cases hk : k < 2
  · simp [hk, show k < 32 by omega]
  · simp [hk]

/-- What OPTIONS keeps of a written word is its bits 1:0 (R237, R245). -/
theorem optionsWord_of_fields (v : Word) : optionsWord (clkmulField v) (waveField v) = v &&& 3#32 := by
  apply BitVec.eq_of_getLsbD_eq
  intro k _
  rw [optionsWord_getLsbD, getLsbD_and_three]
  match k with
  | 0 => simp [clkmulField]
  | 1 => simp [waveField]
  | k + 2 => simp

/-- What VARIANT keeps of a written word is its bits 1:0 (R238, R246). -/
theorem variantWord_of_field (v : Word) : variantWord (selField v) = v &&& 3#32 := by
  apply BitVec.eq_of_getLsbD_eq
  intro k _
  rw [variantWord_getLsbD, getLsbD_and_three, selField, BitVec.getLsbD_extractLsb', Nat.zero_add]

/-- What a register reads as once `v` was written to it: all of `v`, its bits 1:0, or, where writes are ignored, what it read before. -/
def State.storedValue (s : State) (v : Word) : Reg → Word
  | .freq | .refclk | .cal => v
  | .options | .variant => v &&& 3#32
  | r => s.readReg r

theorem readReg_writeReg_same (s : State) (v : Word) (r : Reg) : (s.writeReg v r).readReg r = s.storedValue v r := by
  cases r with
  | options => exact optionsWord_of_fields v
  | variant => exact variantWord_of_field v
  | cmd | status | freq | refclk | cal | word => rfl

/-- No register shows what is written to another; STATUS shows nothing a register write stores. -/
theorem readReg_writeReg_of_ne (s : State) (v : Word) {q r : Reg} (h : q ≠ r) : (s.writeReg v r).readReg q = s.readReg q := by
  cases r with
  | cmd | status | word => rfl
  | freq => cases q with | freq => exact absurd rfl h | _ => rfl
  | refclk => cases q with | refclk => exact absurd rfl h | _ => rfl
  | cal => cases q with | cal => exact absurd rfl h | _ => rfl
  | options => cases q with | options => exact absurd rfl h | _ => rfl
  | variant => cases q with | variant => exact absurd rfl h | _ => rfl

/-- Settles O10: the state is that of `writeReg`, read at the written register and at another. -/
theorem readAfterWriteGivesTheStoredValue : Obligations.ReadAfterWriteGivesTheStoredValue := by
  unfold Obligations.ReadAfterWriteGivesTheStoredValue
  intro s r q v hcmd
  refine ⟨s.writeReg v r, runTransaction_write hcmd v s, ?_⟩
  split
  next heq =>
    subst heq
    rw [readReg_writeReg_same]
    cases q <;> rfl
  next hne => exact readReg_writeReg_of_ne s v hne

end Sys2Proof.Machine
end

section
/-! PROOFS. Family 60_exceptions.md: the acceptance check of a write to CMD (O11), and that nothing stops the machine while the host does only what
its port can express (O48). -/

namespace Sys2Proof.Machine

/-! ### A write to CMD (R240, R261, R262) -/

/-- Whatever its word, a write to CMD is checked as that word and has some effect once accepted. -/
theorem runTransaction_cmd (s : State) (v : Word) :
    ∃ effect, runTransaction (writeTransaction .cmd v) s = .next (s.command v effect) := by
  rw [runTransaction, decode_writeTransaction, decodeWrite]
  cases hr : reservedEncoding v with
  | true =>
    rw [decodeCommand_reserved hr]
    exact ⟨_, rfl⟩
  | false =>
    rcases word_cases_of_unreserved hr with ⟨c, rfl⟩ | hillegal
    · rw [decodeCommand_word]
      cases c <;> exact ⟨_, rfl⟩
    · rw [decodeCommand_illegal hillegal]
      exact ⟨_, rfl⟩

theorem runTransaction_cmd_rejected {s : State} {v : Word} {e : ErrCode} (h : s.acceptCheck v = some e) :
    runTransaction (writeTransaction .cmd v) s = .next { s with err := e } := by
  obtain ⟨effect, hrun⟩ := runTransaction_cmd s v
  rw [hrun, command_rejected s h]
  rfl

theorem runTransaction_cmd_accepted {s : State} {v : Word} (h : s.acceptCheck v = none) :
    ∃ t, runTransaction (writeTransaction .cmd v) s = .next t ∧ t.err = .none := by
  obtain ⟨effect, hrun⟩ := runTransaction_cmd s v
  rw [hrun, command_accepted s h]
  exact ⟨_, rfl, rfl⟩

/-- Illegal opcodes by their bits (R84). -/
theorem illegalOp_iff (v : Word) :
    illegalOp v = true ↔ v.extractLsb' 0 3 = 5#3 ∨ v.extractLsb' 0 3 = 6#3 ∨ v.extractLsb' 0 3 = 7#3 := by
  have hops : ∀ op : BitVec 3, decide (4 < op.toNat) = true ↔ op = 5#3 ∨ op = 6#3 ∨ op = 7#3 := by decide
  exact hops (cmdOp v)

theorem acceptCheck_quantize {s : State} {v : Word} (hq : s.queue = []) (hv : v = 0x00000004#32 ∨ v = 0x0000000C#32) :
    s.acceptCheck v = if s.refclk = 0#32 then some .badClk else none := by
  rcases hv with rfl | rfl
  · exact acceptCheck_quantize28 s hq
  · exact acceptCheck_quantize32 s hq

/-- When no check of R262 is left to fail, the command is accepted. -/
theorem acceptCheck_none {s : State} {v : Word} (hq : s.queue = [])
    (h : v = 0x00000000#32 ∨
      (v = 0x00000001#32 ∧ s.cfgValid = false ∧ s.sel ≠ 3#2 ∧ s.refclk ≠ 0#32) ∨
      (v = 0x00000002#32 ∧ s.cfgValid = true) ∨
      (v = 0x00000003#32 ∧ s.cfgValid = true ∧ s.enc = .ready) ∨
      ((v = 0x00000004#32 ∨ v = 0x0000000C#32) ∧ s.refclk ≠ 0#32)) : s.acceptCheck v = none := by
  rcases h with rfl | ⟨rfl, hvalid, hsel, hclk⟩ | ⟨rfl, hvalid⟩ | ⟨rfl, hvalid, henc⟩ | ⟨hv, hclk⟩
  · exact acceptCheck_nop s hq
  · exact (acceptCheck_configure s hq).trans (by simp [hvalid, hsel, hclk])
  · exact (acceptCheck_init s hq).trans (by simp [hvalid])
  · exact (acceptCheck_setFrequency s hq).trans (by simp [hvalid, henc])
  · exact (acceptCheck_quantize hq hv).trans (if_neg hclk)

/-- Settles O11: a write to CMD answers by the acceptance check of its word, which is known for reserved and illegal words and for each command. -/
theorem firstFailingCheckRejectsAndWritesOnlyErr : Obligations.FirstFailingCheckRejectsAndWritesOnlyErr := by
  unfold Obligations.FirstFailingCheckRejectsAndWritesOnlyErr
  intro s v run reserved
  refine ⟨fun hq => ?busy, fun hq hr => ?reserved, fun hq hr hop => ?illegal, fun hq hv hvalid => ?configured,
    fun hq hv hvalid hsel => ?badVariant, fun hq hv hvalid hsel hclk => ?badClk, fun hq hv hvalid => ?initNotConfig,
    fun hq hv hvalid => ?setfNotConfig, fun hq hv hvalid henc => ?notReady, fun hq hv hclk => ?quantBadClk,
    fun hq haccept => runTransaction_cmd_accepted (acceptCheck_none hq haccept)⟩
  all_goals refine runTransaction_cmd_rejected ?_
  case busy => exact acceptCheck_busy s v hq
  case reserved => exact acceptCheck_reserved s hq ((reservedEncoding_iff v).2 hr)
  case illegal =>
    have hunreserved : reservedEncoding v = false := Bool.eq_false_iff.2 fun h => hr ((reservedEncoding_iff v).1 h)
    exact acceptCheck_illegal s hq hunreserved ((illegalOp_iff v).2 hop)
  case configured => exact hv ▸ (acceptCheck_configure s hq).trans (by simp [hvalid])
  case badVariant => exact hv ▸ (acceptCheck_configure s hq).trans (by simp [hvalid, hsel])
  case badClk => exact hv ▸ (acceptCheck_configure s hq).trans (by simp [hvalid, hsel, hclk])
  case initNotConfig => exact hv ▸ (acceptCheck_init s hq).trans (by simp [hvalid])
  case setfNotConfig => exact hv ▸ (acceptCheck_setFrequency s hq).trans (by simp [hvalid])
  case notReady => exact hv ▸ (acceptCheck_setFrequency s hq).trans (by simp [hvalid, henc])
  case quantBadClk => exact (acceptCheck_quantize hq hv).trans (if_pos hclk)

/-! ### The machine never stops under a safe host (R264, R61, R68) -/

/-- Whether the host is safe depends on its program alone. -/
theorem State.SafeHost.of_program_eq {s t : State} (hs : s.SafeHost) (h : t.program = s.program) : t.SafeHost := by
  unfold State.SafeHost
  rw [h]
  exact hs

theorem State.SafeHost.cons {s : State} {op : HostOp} {rest : List HostOp} (hs : s.SafeHost) (h : s.program = op :: rest) :
    op.safe = true ∧ (s.setProgram rest).SafeHost := by
  unfold State.SafeHost at hs
  rw [h] at hs
  exact List.forall_mem_cons.1 hs

/-- A transaction always answers and leaves the host's program alone. -/
theorem runTransaction_safeHost {s : State} (hs : s.SafeHost) (t : Transaction) :
    ∃ u, runTransaction t s = .next u ∧ u.SafeHost := by
  obtain ⟨u, hrun, heffect⟩ := runTransaction_effect s t
  obtain ⟨-, -, -, -, -, -, hprogram, -⟩ := heffect.frame
  exact ⟨u, hrun, hs.of_program_eq hprogram⟩

/-- A safe access of a byte-addressed host reaches a register: the adapter passes it on. -/
theorem runByteAccess_of_safe {write : Bool} {addr : Nat} {data : Word} (h : (HostOp.byteAccess write addr data).safe = true)
    (s : State) : ∃ i, runByteAccess write addr data s = runTransaction (transaction write i data) s := by
  obtain ⟨hlow, hhigh, haligned⟩ := of_decide_eq_true h
  have hinside : ¬(addr < Config.k3ddsBase ∨ Config.k3ddsBase + 32 ≤ addr) := by omega
  rw [runByteAccess, adapt, if_neg hinside, if_neg (not_not.2 haligned)]
  exact ⟨_, rfl⟩

theorem waitIdleTurn_safeHost {s : State} {rest : List HostOp} (hs : s.SafeHost) (hrest : (s.setProgram rest).SafeHost) :
    (waitIdleTurn rest s).SafeHost := by
  rw [waitIdleTurn_eq]
  split
  · exact hrest
  · exact hs

theorem hostTurn_nil {s : State} (h : s.program = []) : hostTurn s = .next s := by
  simp [hostTurn, h]

theorem hostTurn_byteAccess {s : State} {write : Bool} {addr : Nat} {data : Word} {rest : List HostOp}
    (h : s.program = .byteAccess write addr data :: rest) : hostTurn s = runByteAccess write addr data (s.setProgram rest) := by
  simp [hostTurn, h]

theorem hostTurn_safeHost {s : State} (hs : s.SafeHost) : ∃ t, hostTurn s = .next t ∧ t.SafeHost := by
  cases hp : s.program with
  | nil => exact ⟨s, hostTurn_nil hp, hs⟩
  | cons op rest =>
    obtain ⟨hop, hrest⟩ := hs.cons hp
    cases op with
    | transaction t =>
      rw [hostTurn_transaction hp]
      exact runTransaction_safeHost hrest t
    | byteAccess write addr data =>
      obtain ⟨i, hreg⟩ := runByteAccess_of_safe hop (s.setProgram rest)
      rw [hostTurn_byteAccess hp, hreg]
      exact runTransaction_safeHost hrest _
    | waitIdle => exact ⟨_, hostTurn_waitIdle hp, waitIdleTurn_safeHost hs hrest⟩

theorem sequencerStep_program (s : State) : s.sequencerStep.program = s.program :=
  sequencerStep_keeps State.program (fun _ m _ => by cases m <;> rfl) s

/-- Settles O48: the sequencer and a reset always answer and leave the host's program alone; the host's turn only takes operations off it. -/
theorem safeHostNeverStopsTheMachine : Obligations.SafeHostNeverStopsTheMachine := by
  unfold Obligations.SafeHostNeverStopsTheMachine
  intro s hs
  have hused : (s.setTurns s.turns.tail).SafeHost := hs
  cases hturn : nextTurn s with
  | host =>
    rw [step_of_host hturn]
    exact hostTurn_safeHost hused
  | sequencer => exact ⟨_, step_of_sequencer hturn, hused.of_program_eq (sequencerStep_program _)⟩
  | rst => exact ⟨_, step_of_rst hturn, hused.of_program_eq (State.resetInput_program _)⟩

end Sys2Proof.Machine
end

section
/-! PROOFS. Family 70_reset_and_hazards.md: the reset input (O38) and a reset in the middle of a program (O39), a running program beside the staging
registers and the host (O59), and the informative cycles of SET_FREQUENCY (O34). -/

namespace Sys2Proof.Machine

/-! ### The reset input (R290) -/

/-- STATUS reads only components that have a reset value, so the reset input leaves it at its power-on value. -/
theorem status_resetInput (s : State) : s.resetInput.status = 0x00000300#32 := status_reset

/-- Settles O38: the step is the reset input, and all but STATUS are fields it writes. -/
theorem resetInputRestoresEveryResetValue : Obligations.ResetInputRestoresEveryResetValue := by
  unfold Obligations.ResetInputRestoresEveryResetValue
  exact fun s hturn => ⟨_, step_of_rst hturn, status_resetInput _, rfl, rfl, rfl, rfl, rfl, rfl, rfl, rfl, rfl, rfl, rfl, rfl, rfl, rfl, rfl, rfl⟩

/-! ### A reset in the middle of a program (R291) -/

theorem nextTurn_of_turns {s : State} {turn : Turn} {ts : List Turn} (h : s.turns = turn :: ts) : nextTurn s = turn := by
  simp [nextTurn, h]

/-- As many turns of the sequencer as `p` is long perform `p` from the front of the queue, whatever `n` steps come after. -/
theorem runSteps_performs_front {s : State} {p q : List MicroStep} {ts : List Turn} (n : Nat)
    (hturns : s.turns = List.replicate p.length .sequencer ++ ts) (hq : s.queue = p ++ q) :
    ∃ u, runSteps (p.length + n) s = runSteps n u ∧ u.trace = s.trace ++ busEvents p ∧ u.queue = q ∧ u.turns = ts := by
  induction p generalizing s with
  | nil => exact ⟨s, by rw [List.length_nil, Nat.zero_add], by simp, hq, hturns⟩
  | cons m p ih =>
    have hfirst : s.turns = .sequencer :: (List.replicate p.length .sequencer ++ ts) := hturns
    have hstep := step_performs (q := p ++ q) (nextTurn_of_turns hfirst) hq
    obtain ⟨htrace, hqueue, hturns', -⟩ := perform_setQueue (s.setTurns s.turns.tail) m (p ++ q)
    obtain ⟨u, hrun, htraceU, hrest⟩ := ih (hturns'.trans (congrArg List.tail hfirst)) hqueue
    refine ⟨u, ?_, ?_, hrest⟩
    · rw [List.length_cons, Nat.add_right_comm, runSteps_succ _ hstep, hrun]
    · rw [htraceU, htrace, busEvents_cons m p, List.append_assoc]
      rfl

/-- Settles O39: the sequencer performs the first `k` micro-steps of the queue, and the step after them is the reset input. -/
theorem resetMidProgramLeavesThePerformedEvents : Obligations.ResetMidProgramLeavesThePerformedEvents := by
  unfold Obligations.ResetMidProgramLeavesThePerformedEvents
  intro s k ts hk hturns
  have hlength : (s.queue.take k).length = k := List.length_take_of_le hk
  obtain ⟨u, hrun, htrace, -, hturnsU⟩ := runSteps_performs_front (p := s.queue.take k) (q := s.queue.drop k) 1
    (hlength.symm ▸ hturns) (List.take_append_drop k s.queue).symm
  rw [hlength] at hrun
  have hreset : runSteps 1 u = .next (u.setTurns u.turns.tail).resetInput := runSteps_succ 0 (step_of_rst (nextTurn_of_turns hturnsU))
  exact ⟨_, hrun.trans hreset, congrArg (· ++ [BusEvent.reset]) htrace, rfl, rfl, rfl, congrArg List.tail hturnsU⟩

/-! ### A running program beside the staging registers and the host (R35, R71.1, R125, R302) -/

/-- The state with the staging registers and `err` at their reset values, the host's program empty and its answers forgotten. -/
def State.withoutStaging (s : State) : State :=
  { s with freq := 0#32, refclk := 0#32, cal := 0#32, clkmul := false, wave := false, sel := 3#2, err := .none, program := [], results := [] }

/-- The state with the staging registers, `err`, the host's program and its answers of another one. -/
def State.withStagingOf (s t : State) : State :=
  { s with
    freq := t.freq, refclk := t.refclk, cal := t.cal, clkmul := t.clkmul, wave := t.wave, sel := t.sel
    err := t.err, program := t.program, results := t.results }

theorem alikeUpToStaging_iff (s t : State) : alikeUpToStaging s t ↔ t.withoutStaging = s.withoutStaging := by
  constructor
  · intro h
    rw [show t = s.withStagingOf t from h]
    rfl
  · intro h
    calc t = t.withoutStaging.withStagingOf t := rfl
      _ = s.withoutStaging.withStagingOf t := by rw [h]

theorem perform_withoutStaging (s : State) (m : MicroStep) : (s.perform m).withoutStaging = s.withoutStaging.perform m := by
  cases m <;> rfl

theorem sequencerStep_withoutStaging (s : State) : s.sequencerStep.withoutStaging = s.withoutStaging.sequencerStep := by
  rcases sequencerStep_cases s with ⟨hq, hs⟩ | ⟨m, rest, hq, hs⟩
  · rw [hs, sequencerStep_nil s.withoutStaging hq]
  · rw [hs, sequencerStep_cons s.withoutStaging hq, ← perform_withoutStaging]
    rfl

/-- While a program is queued, a host access changes nothing but staging registers, `err` and the host's answers. -/
theorem HostEffect.withoutStaging {s u : State} (h : HostEffect s u) (hqueued : s.queue ≠ []) :
    u.withoutStaging = s.withoutStaging := by
  cases h with
  | cleared hq | configured hq | initStarted hq | setfStarted hq | quantStarted hq => exact absurd hq hqueued
  | _ => rfl

/-- While a program is queued, a step is the same step of the block left alone: the staging registers cleared and the host idle. -/
theorem step_withoutStaging {s t : State} (hqueued : s.queue ≠ []) (h : step s = .next t) :
    step s.withoutStaging = .next t.withoutStaging := by
  rcases step_cases h with ⟨hturn, rfl⟩ | ⟨hturn, rfl⟩ | ⟨hturn, p, heffect⟩
  · rw [step_of_sequencer (s := s.withoutStaging) hturn, sequencerStep_withoutStaging]
    rfl
  · exact step_of_rst (s := s.withoutStaging) hturn
  · rw [step_of_host (s := s.withoutStaging) hturn, hostTurn_nil rfl, heffect.withoutStaging hqueued]
    rfl

/-- Settles O59: both steps are the one step of the block left alone. -/
theorem runningProgramIgnoresStagingRegistersAndHost : Obligations.RunningProgramIgnoresStagingRegistersAndHost := by
  unfold Obligations.RunningProgramIgnoresStagingRegistersAndHost
  intro s s' t t' halike hqueued hstep hstep'
  rw [alikeUpToStaging_iff] at halike ⊢
  have hqueue := congrArg State.queue halike
  have hqueued' : s'.queue ≠ [] := fun h => hqueued (hqueue.symm.trans h)
  have halone := step_withoutStaging hqueued hstep
  have halone' := step_withoutStaging hqueued' hstep'
  rw [halike, halone] at halone'
  exact (Host.Outcome.next.inj halone').symm

/-! ### The informative cycles of SET_FREQUENCY (R306) -/

section Cycles

variable (settleD qlat : Nat)

theorem programCycles_append (p q : List MicroStep) :
    programCycles settleD qlat (p ++ q) = programCycles settleD qlat p + programCycles settleD qlat q := by
  simp [programCycles]

theorem programCycles_quant (w : Word) (q : List MicroStep) :
    programCycles settleD qlat (.quant w :: q) = qlat + programCycles settleD qlat q :=
  programCycles_append settleD qlat [.quant w] q

/-- Cycles of one bit: its three line events, and the settle delay where the variant has one (R206). -/
def bitCycles (v : Variant) : Nat := 3 + if settles v then settleD else 0

theorem programCycles_sendBit (v : Variant) (b : Bool) : programCycles settleD qlat (sendBit v b) = bitCycles settleD v := by
  cases v <;> simp [sendBit, settles, programCycles, microStepCycles, bitCycles] <;> omega

theorem programCycles_sendFrame {k : Nat} (v : Variant) (val : BitVec k) (n : Nat) (o : BitOrder) :
    programCycles settleD qlat (sendFrame v val n o) = n * bitCycles settleD v := by
  have bits : ∀ l : List Bool, programCycles settleD qlat (l.flatMap (sendBit v)) = l.length * bitCycles settleD v := by
    intro l
    induction l with
    | nil => simp [programCycles]
    | cons b l ih =>
      rw [List.flatMap_cons, programCycles_append, programCycles_sendBit, ih, List.length_cons, Nat.succ_mul, Nat.add_comm]
  rw [sendFrame, bits, frameBits_length]

theorem programCycles_commitPulse : programCycles settleD qlat commitPulse = 2 := rfl

theorem programCycles_frame28 (val : BitVec 16) : programCycles settleD qlat (frame28 val) = 50 := by
  rw [frame28, programCycles_append, programCycles_sendFrame, programCycles_commitPulse]
  rfl

theorem programCycles_setf28 (rom : Rom28) (w : Word) (wave : Bool) : programCycles settleD qlat (setf28 rom w wave) = 250 := by
  simp only [setf28, programCycles_append, programCycles_frame28]

theorem programCycles_setf32 {v : Variant} (h : settles v = true) (w : Word) (clkmul : Bool) :
    programCycles settleD qlat (setf32 v w clkmul) = 122 + 40 * settleD := by
  have hbit : bitCycles settleD v = 3 + settleD := by rw [bitCycles, if_pos h]
  rw [setf32, programCycles_append, programCycles_append, programCycles_sendFrame, programCycles_sendFrame,
    programCycles_commitPulse, hbit]
  omega

end Cycles

/-- Settles O34: Quant takes QLAT, and the frame program of each variant its own cycles. -/
theorem setFrequencyCyclesAreTheInformativeOnes : Obligations.SetFrequencyCyclesAreTheInformativeOnes := by
  unfold Obligations.SetFrequencyCyclesAreTheInformativeOnes
  intro rom w clkmul wave settleD qlat
  simp only [programCycles_quant, setfProgram, programCycles_setf28, programCycles_setf32 (v := .v32) settleD qlat rfl,
    programCycles_setf32 (v := .v32m) settleD qlat rfl, Nat.add_assoc, and_self]

end Sys2Proof.Machine
end
